-- ==== Sys2Proof/Word.lean ====
section
/-! DEFINITION. The words and the object numbers of the part: bytes, the 32-bit monotonic count, 6-bit station addresses, and the numbers of zones, houses, pumps, feeders, lines, entries and profiles (00_scope section 4). -/

namespace Sys2Proof

/-- A telegram byte (R172). -/
abbrev Byte := BitVec 8

/-- A reading of the monotonic count: tenths of a second, modulo 2^32 (R109, R111). -/
abbrev Count := BitVec 32

/-- A station address, 0 to 63 (R172). -/
abbrev Addr := BitVec 6

/-- A zone number, 0 to 15. -/
abbrev ZoneId := Fin 16

/-- A house number, 0 to 11. -/
abbrev HouseId := Fin 12

/-- A pump number, 0 to 47. -/
abbrev PumpId := Fin 48

/-- A feeder number, 0 to 3. -/
abbrev FeederId := Fin 4

/-- A hard-wired input line, IN0 to IN3. -/
abbrev LineId := Fin 4

/-- An interlock entry number, 0 to 31. -/
abbrev EntryId := Fin 32

/-- A ramp profile number, 0 to 7. -/
abbrev ProfileId := Fin 8

end Sys2Proof
end

