-- ==== Sys2Proof/Syntax.lean ====
section
/-! DEFINITION. The commands of the block: one constructor of Instr for each row of spec/opcode_table.json, with the operands the row's telegram or event carries. A telegram operand keeps the width its format gives it (R172 to R177), so that every value the spec refuses can be given. -/

namespace Sys2Proof

/-- The three line ports (section 8). -/
inductive Port
  | c
  | f1
  | f2
deriving DecidableEq, Repr

/-- The level of a pin (R106). -/
inductive PinLevel
  | high
  | low
deriving DecidableEq, Repr

/-- Why a telegram under assembly is abandoned (the table of R139). -/
inductive AbandonCause
  | violation
  | startMark
  | misplacedEndMark
  | excessLength
deriving DecidableEq, Repr

/-- One item of a LEVEL_REPORT as it travels (R174). -/
structure LevelItem where
  zone : Byte
  level : BitVec 16
  quality : Byte
deriving DecidableEq, Repr

/-- One item of a PUMP_REPORT as it travels (R174). -/
structure PumpItem where
  index : Byte
  flags : Byte
  speed : Byte
deriving DecidableEq, Repr

/-- One field entry of a load body: a field code and a 4-byte value (R176). -/
structure FieldEntry where
  code : Byte
  value : BitVec 32
deriving DecidableEq, Repr

/-- One point of a profile body (R176). -/
structure PointBody where
  speed : Byte
  dwell : BitVec 16
deriving DecidableEq, Repr

/-- The nine bytes of an interlock body (R176). -/
structure InterlockBody where
  causeKind : Byte
  causeObject : Byte
  level : BitVec 16
  band : BitVec 16
  targetKind : Byte
  targetObject : Byte
  action : Byte
deriving DecidableEq, Repr

/-- The five bytes of a plan window body (R176). -/
structure WindowBody where
  start : BitVec 16
  offset : BitVec 16
  cap : Byte
deriving DecidableEq, Repr

/-- The settings a PORT_MODE order carries with TEST (R145, R176). -/
structure TestBody where
  pattern : Byte
  user : BitVec 24
  invert : Byte
  duration : BitVec 16
deriving DecidableEq, Repr

/-- The commands, one for each row of spec/opcode_table.json. -/
inductive Instr
  -- resets
  | coldReset (straps : Addr)
  | restart
  -- pins
  | inputLevelChange (line : LineId) (level : PinLevel)
  | filterExpiry (line : LineId)
  -- periodic events
  | secondEvent
  | minuteEvent
  | hourEvent
  | dayEvent
  -- lines
  | portUp (port : Port)
  | lossOfCode (port : Port)
  | telegramAbandoned (port : Port) (cause : AbandonCause)
  | receiveCompletion (port : Port) (bytes : List Byte)
  -- reports and requests
  | levelReport (source : Addr) (items : List LevelItem)
  | pumpReport (source : Addr) (items : List PumpItem)
  | timeSet (time : BitVec 24) (day : BitVec 16)
  | start (pump : PumpId) (priority : Byte)
  | stop (pump : PumpId)
  | speed (pump : PumpId) (percent : Byte)
  -- loads
  | partLoadZone (index : Byte) (fields : List FieldEntry)
  | partLoadHouse (index : Byte) (fields : List FieldEntry)
  | partLoadPump (index : Byte) (fields : List FieldEntry)
  | partLoadRunTime (index : Byte) (fields : List FieldEntry)
  | partLoadProfile (index : Byte) (points : List PointBody)
  | partLoadFeeder (index : Byte) (fields : List FieldEntry)
  | partLoadInterlock (index : Byte) (body : InterlockBody)
  | partLoadInput (index : Byte) (fields : List FieldEntry)
  | partLoadPlanActive (index : Byte) (window : Option WindowBody)
  | partLoadPlanNext (index : Byte) (window : Option WindowBody)
  | partLoadRoute (index : Byte) (fields : List FieldEntry)
  | partLoadSwitch (index : Byte) (fields : List FieldEntry)
  | partLoadPort (index : Byte) (fields : List FieldEntry)
  | partLoadGeneral (index : Byte) (fields : List FieldEntry)
  -- reads
  | partRead (table : Byte) (index : Byte) (position : Byte)
  -- orders
  | run (target : Byte)
  | supervise
  | autonomous
  | config
  | clearLockout (pump : Byte) (member : Byte)
  | enableInterlock (entry : Byte) (request : Byte)
  | clearFlags (kind : Byte) (object : Byte)
  | latchCounter (port : Byte)
  | portMode (port : Byte) (mode : Byte) (settings : TestBody)
  | insertError (port : Byte)
  | portReset (port : Byte)
  | planMark
  | planSwap
  -- transmitters
  | transmitTake (port : Port)
  | transmissionComplete (port : Port)
  -- timers
  | staleTimerExpiry (zone : ZoneId)
  | silenceTimerExpiry (house : HouseId)
  | stepTimerExpiry (zone : ZoneId)
  | dwellExpiry (pump : PumpId)
  | startConfirmExpiry (pump : PumpId)
  | stopConfirmExpiry (pump : PumpId)
  | minRunExpiry (pump : PumpId)
  | minOffExpiry (pump : PumpId)
  | queueWaitEnd (pump : PumpId)
  | settleTimerExpiry (zone : ZoneId)
  | controlSilenceExpiry
  | fallbackExpiry
  | holdoffExpiry
  | testTimerExpiry (port : Port)
  | monotonicCountRise
  -- test and line events
  | lineViolation (port : Port)
  | checkerInSync (port : Port)
  | patternBitError (port : Port)
  | checkerReturnToHunting (port : Port)
deriving DecidableEq, Repr

end Sys2Proof
end

