-- ==== Sys2Proof/Config.lean ====
section
/-! DEFINITION. What the part fixes for good: the capacities and ranges of 00_scope section 4, and the bound under which the model settles the notifications of one command. The spec leaves no value open that a command computes, so no constant here is without a body. -/

namespace Sys2Proof
namespace Config

/-- Entries of the start queue (R70). -/
def queueCapacity : Nat := 16

/-- Telegrams of a port's own queue: command queue or reply queue (section 8.5). -/
def ownCapacity : Nat := 4

/-- Telegrams of a field port's pass queue (section 8.5). -/
def fieldPassCapacity : Nat := 8

/-- Telegrams of port C's pass queue (section 8.5). -/
def controlPassCapacity : Nat := 12

/-- Where every error, reject and turned-away count stays (R7, R143, R161). -/
def countLimit : Nat := 65535

/-- The highest level, in millimetres (R6). -/
def levelLimit : Nat := 32000

/-- Seconds of a day (R109). -/
def secondsPerDay : Nat := 86400

/-- Age at which a start stamp leaves the history, in tenths (R64). -/
def historyAge : Nat := 36000

/-- Points a profile may hold (R42). -/
def profilePoints : Nat := 12

/-- Windows a bank may hold (R114). -/
def bankWindows : Nat := 12

/-- Where a bypass count stays (R83). -/
def bypassCeiling : Nat := 15

/-- Items of an alert (R169). -/
def alertItems : Nat := 12

/-- Bytes a telegram may hold (R139, R140). -/
def telegramBytes : Nat := 62

/-- Correct predictions in a row that bring a checker of a PRBS pattern into sync (R146). -/
def syncPredictions : Nat := 32

/-- Bits in a row that an alignment of the user pattern matches to bring the checker into sync (R146).
-/
def syncMatches : Nat := 48

/-- Consecutive checked bits among which the errors of a checker in sync are held against its limit
(R146). -/
def syncWindow : Nat := 64

/-- Errors among them that send the checker back to hunting (R146). -/
def syncErrors : Nat := 16

/-- The broadcast address (R150). -/
def broadcast : Addr := 63

/-- How many notifications between blocks one command may settle. DESIGN CHOICE, unsafe only if a
command caused more: notes/assumptions/15.md says why none does. -/
def settleBound : Nat := 4096

end Config
end Sys2Proof
end

