-- ==== Sys2Proof/Machine/State.lean ====
section
/-! DEFINITION. The state of the part: every table, queue, timer, count and mode that spec/ gives its nine blocks, the queue of waiting commands, and State.reset, every field at its cold reset value. Fields cite the rule that names them. -/

namespace Sys2Proof.Machine

/-! ### Timers -/

/-- A timer on the monotonic count: it expires when the count reaches `start + duration` (in tenths),
modulo 2^32 (R111). -/
inductive Timer
  | idle
  | running (start : Count) (duration : Nat)
deriving DecidableEq, Repr

/-- A confirm or dwell timer, which reachability pauses (R62); paused it keeps its remaining tenths. -/
inductive PausableTimer
  | idle
  | running (start : Count) (duration : Nat)
  | paused (remaining : Nat)
deriving DecidableEq, Repr

/-! ### Zones (R1, R3, R20, R85) -/

/-- Zone state (R3). -/
inductive ZoneState
  | unset
  | live
  | stale
  | failed
deriving DecidableEq, Repr

/-- The outstation's judgement of its sensor (R6). -/
inductive Quality
  | good
  | suspect
  | failed
deriving DecidableEq, Repr

/-- The earlier level and time against which a slope is measured (R3). -/
structure SlopeBase where
  level : Nat
  time : Count
deriving DecidableEq, Repr

/-- One zone record. -/
structure Zone where
  inUse : Bool := false
  reporter : Option Addr := none
  startLevel : Nat := 0
  stopLevel : Nat := 0
  staleLimit : Nat := 300
  smoothing : Nat := 2
  horizon : Nat := 15
  stepDelay : Nat := 120
  settleTime : Nat := 60
  demandPriority : Nat := 1
  state : ZoneState := .unset
  level : Option Nat := none
  quality : Option Quality := none
  lastReading : Option Count := none
  slopeBase : Option SlopeBase := none
  staleTimer : Timer := .idle
  trend : Int := 0
  forecast : Option Nat := none
  call : Nat := 0
  stepTimer : Timer := .idle
  settleTimer : Timer := .idle
deriving DecidableEq, Repr

/-! ### Houses (R16 to R18) -/

/-- A house's comm state (R18). -/
inductive CommState
  | online
  | silent
  | unreachable
deriving DecidableEq, Repr

/-- One house record. -/
structure House where
  configured : Bool := false
  address : Option Addr := none
  silenceLimit : Nat := 120
  lastReport : Option Count := none
  silenceTimer : Timer := .idle
  comm : CommState := .silent
deriving DecidableEq, Repr

/-! ### Pumps (R15, R38, R40, R41) -/

/-- Pump state, in the order of R40. -/
inductive PumpState
  | unknown
  | off
  | queued
  | starting
  | running
  | stopping
  | locked
  | unavailable
deriving DecidableEq, Repr

/-- The command of a PUMP_SET telegram of the part (R44). -/
inductive PumpCommand
  | start (percent : Nat)
  | speed (percent : Nat)
  | stop
deriving DecidableEq, Repr

/-- Where a profile in progress stands (R40). -/
inductive Position
  | point (n : Nat)
  | stop
deriving DecidableEq, Repr

/-- A telegram placed in a command queue (R44), with the model's serial that identifies it and the
position of the profile in progress that it was issued for, none once that profile has ended
(notes/assumptions/7.md). -/
structure Issued where
  serial : Nat
  command : PumpCommand
  step : Option Position
deriving DecidableEq, Repr

/-- The tag of a lockout member (R41). -/
inductive Tag
  | latched
  | follow
deriving DecidableEq, Repr

/-- The internal causes of a lockout (R41). -/
inductive InternalCause
  | failToStart
  | failToStop
  | outstationTrip
deriving DecidableEq, Repr

/-- A lockout set: entry numbers as a mask, which of them are LATCHED, and the internal causes, which
always are (R41; R177 reads it in these three places). -/
structure Lockout where
  entries : BitVec 32 := 0
  latched : BitVec 32 := 0
  failToStart : Bool := false
  failToStop : Bool := false
  outstationTrip : Bool := false
deriving DecidableEq, Repr

/-- A pump's last report (R14, R15). -/
structure PumpReport where
  running : Bool
  available : Bool
  tripped : Bool
  speed : Nat
  time : Count
deriving DecidableEq, Repr

/-- One pump record. -/
structure Pump where
  configured : Bool := false
  sourceZone : Option ZoneId := none
  deliveryZone : ZoneId := 0
  feeder : FeederId := 0
  ratedLoad : Nat := 1
  inrush : Nat := 24
  startProfile : Option ProfileId := none
  stopProfile : Option ProfileId := none
  speedTrim : Nat := 32
  minSpeed : Nat := 0
  maxSpeed : Nat := 100
  minRun : Nat := 60
  minOff : Nat := 120
  startsLimit : Nat := 6
  startConfirmLimit : Nat := 60
  stopConfirmLimit : Nat := 60
  state : PumpState := .unknown
  lockout : Lockout := {}
  inhibit : BitVec 32 := 0
  stopPending : Bool := false
  issuePending : Option PumpCommand := none
  awaited : Option Issued := none
  position : Option Position := none
  confirmTimer : PausableTimer := .idle
  dwellTimer : PausableTimer := .idle
  resendDone : Bool := false
  minRunTimer : Timer := .idle
  minOffTimer : Timer := .idle
  tripSeen : Bool := false
  history : List Count := []
  runTime : Nat := 0
  report : Option PumpReport := none
deriving DecidableEq, Repr

/-- One point of a ramp profile: speed in percent, dwell in tenths (R42). -/
structure ProfilePoint where
  speed : Nat
  dwell : Nat
deriving DecidableEq, Repr

/-! ### Start queue and feeders (R70, R77) -/

/-- The source of a start request (R70). -/
inductive Origin
  | control
  | demand
deriving DecidableEq, Repr

/-- One start queue entry (R70). -/
structure QueueEntry where
  pump : PumpId
  origin : Origin
  priority : Nat
  entered : Count
  bypass : Nat
deriving DecidableEq, Repr

/-- One feeder record; its effective limit and committed load are computed (Machine/Ops.lean). -/
structure Feeder where
  limit : Nat := 0
deriving DecidableEq, Repr

/-! ### Interlocks and inputs (R91, R93, R106) -/

/-- The condition an entry watches (R91). -/
inductive Cause
  | zoneAtOrBelow (zone : ZoneId) (level : Nat) (band : Nat)
  | zoneAtOrAbove (zone : ZoneId) (level : Nat) (band : Nat)
  | zoneNotLive (zone : ZoneId)
  | inputActive (line : LineId)
  | houseNotOnline (house : HouseId)
deriving DecidableEq, Repr

/-- The pumps an entry concerns (R91). -/
inductive Target
  | pump (pump : PumpId)
  | house (house : HouseId)
  | feeder (feeder : FeederId)
  | supplyZone (zone : ZoneId)
  | deliveryZone (zone : ZoneId)
  | all
deriving DecidableEq, Repr

/-- How hard the hold is (R91). -/
inductive Action
  | tripLatch
  | tripFollow
  | inhibit
deriving DecidableEq, Repr

/-- The content of an entry that is not empty (R91). -/
structure InterlockContent where
  cause : Cause
  target : Target
  action : Action
deriving DecidableEq, Repr

/-- One interlock entry (R91, R93). -/
structure Interlock where
  enabled : Bool := false
  content : Option InterlockContent := none
  present : Bool := false
deriving DecidableEq, Repr

/-- One input line (R106). The filter timer holds the filter time it was started with, in
milliseconds; its 10 ms steps are no commands (notes/assumptions/10.md). -/
structure InputLine where
  activeLevel : PinLevel := .high
  filterTime : Nat := 100
  lineLevel : PinLevel := .low
  accepted : Option PinLevel := none
  filterTimer : Option Nat := some 100
deriving DecidableEq, Repr

/-! ### Clock and plan (R109, R114 to R117) -/

/-- Time state (R109), and how many periodic events an advance has produced that have not been
taken (the model's bookkeeping of R110, notes/assumptions/5.md). -/
structure Clock where
  timeOfDay : Nat := 0
  tenths : Nat := 0
  dayCount : BitVec 16 := 0
  timeValid : Bool := false
  mono : Count := 0
  secondsDue : Nat := 0
  minutesDue : Nat := 0
  hoursDue : Nat := 0
  daysDue : Nat := 0
deriving DecidableEq, Repr

/-- A plan window (R114). -/
structure Window where
  start : Nat
  offset : Int
  cap : Nat
deriving DecidableEq, Repr

/-- The state of the NEXT bank (R115). -/
inductive NextState
  | empty
  | loading
  | complete
deriving DecidableEq, Repr

/-- The plan banks and the window in force; `none` is DEFAULT (R114 to R116). -/
structure Plan where
  active : List Window := []
  next : List Window := []
  nextState : NextState := .empty
  inForce : Option Window := none
deriving DecidableEq, Repr

/-! ### Management responder (R121, R164, R167, R169) -/

/-- The operating mode (R121). -/
inductive Mode
  | config
  | supervised
  | autonomous
deriving DecidableEq, Repr

/-- The general parameters (R164). Bit n of the enable set is the nth flag kind of R167. -/
structure General where
  waitLimit : Nat := 300
  bypassLimit : Nat := 4
  fallbackEnabled : Bool := true
  controlSilenceLimit : Nat := 60
  fallbackDelay : Nat := 120
  alertHoldoff : Nat := 5
  enableSet : BitVec 16 := 0xFFFF
deriving DecidableEq, Repr

/-- The mode and the fallback state (R121, R130). The silence timer starts at the last control
telegram. -/
structure Authority where
  mode : Mode := .config
  silenceTimer : Timer := .idle
  present : Bool := false
  fallbackTimer : Timer := .idle
deriving DecidableEq, Repr

/-- Flag kinds of a pump, in the order of R167. -/
inductive PumpFlag
  | failToStart
  | failToStop
  | outstationTrip
  | uncommandedRun
  | uncommandedStop
  | queueTimeout
deriving DecidableEq, Repr

/-- Flag kinds of a zone, in the order of R167. -/
inductive ZoneFlag
  | stale
  | sensorFail
  | thresholdCollapse
deriving DecidableEq, Repr

/-- Flag kinds of a port, in the order of R167. -/
inductive PortFlag
  | loss
  | testErrors
deriving DecidableEq, Repr

/-- Flag kinds of the part, in the order of R167. -/
inductive PartFlag
  | queueFull
  | modeFallback
  | planSwapped
  | planKept
  | rejectedTelegrams
deriving DecidableEq, Repr

/-- A flag: a kind and an object of its sort (R167). -/
inductive Flag
  | pump (kind : PumpFlag) (pump : PumpId)
  | zone (kind : ZoneFlag) (zone : ZoneId)
  | port (kind : PortFlag) (port : Port)
  | part (kind : PartFlag)
deriving DecidableEq, Repr

/-- A latched flag with the count at which it latched (R167). -/
structure LatchedFlag where
  flag : Flag
  count : Count
deriving DecidableEq, Repr

/-- The event table, as its latch order, and the alert state (R167, R169). -/
structure Events where
  latched : List LatchedFlag := []
  alertPending : Bool := false
  alertOutstanding : Bool := false
  holdoff : Timer := .idle
deriving DecidableEq, Repr

/-! ### Switch (R150, R151, R161) -/

/-- A field port. -/
inductive FieldPort
  | f1
  | f2
deriving DecidableEq, Repr

/-- The switch's addresses, its route table and its counts. The straps are the pins as the last cold
reset read them (R149). -/
structure Switch where
  straps : Addr := 0
  partAddress : Addr := 1
  controlAddress : Addr := 0
  route : Vector (Option FieldPort) 64 := Vector.replicate 64 none
  rejected : Nat := 0
  misdirected : Nat := 0
  unrouted : Nat := 0
deriving DecidableEq, Repr

/-- The tracker's two counts (R7). -/
structure TrackerCounts where
  mismatch : Nat := 0
  unknown : Nat := 0
deriving DecidableEq, Repr

/-! ### Line ports (R135 to R147) -/

/-- Line rates, in the order of R135. -/
inductive LineRate
  | r9600
  | r19200
  | r38400
  | r76800
deriving DecidableEq, Repr

/-- Counter classes, in the order of R135. -/
inductive CounterClass
  | codeViolation
  | checkFail
  | length
  | dropped
  | allErrors
  | pattern
deriving DecidableEq, Repr

/-- Latch modes (R135). -/
inductive LatchMode
  | auto
  | manual
deriving DecidableEq, Repr

/-- Port states (section 8.3). -/
inductive PortState
  | down
  | up
  | test
deriving DecidableEq, Repr

/-- Test patterns (R145). -/
inductive Pattern
  | prbs9
  | prbs15
  | user
deriving DecidableEq, Repr

/-- The settings of a test (R145). -/
structure TestSettings where
  pattern : Pattern
  user : BitVec 24
  invert : Bool
  duration : Nat
deriving DecidableEq, Repr

/-- What the pattern checker does (R146). -/
inductive CheckerState
  | hunting
  | inSync
deriving DecidableEq, Repr

/-- The pattern checker (R146): its state; its own register with the bits loaded into it; the
consecutive correct predictions; for each alignment of the user pattern the consecutive bits it has
matched; the place in the user pattern of the next bit; and the bits checked in sync, the latest
first, true for a bit in error. -/
structure Checker where
  state : CheckerState := .hunting
  register : BitVec 15 := 0
  loaded : Nat := 0
  predicted : Nat := 0
  matched : Vector Nat 24 := Vector.replicate 24 0
  place : Nat := 0
  checked : List Bool := []
deriving DecidableEq, Repr

/-- Where a receiver in UP stands (R139): hunting, assembling a telegram (its whole bytes and the
bits of the byte begun), or past an abandoned telegram, whose further intervals count for nothing
until the next start mark. -/
inductive ReceiverPhase
  | hunting
  | assembling (bytes : List Byte) (bits : List Bool)
  | skipping
deriving DecidableEq, Repr

/-- A receiver (R134, R139): its phase, and the level of a last interval that may be the first of a
mark. -/
structure Receiver where
  phase : ReceiverPhase := .hunting
  held : Option PinLevel := none
deriving DecidableEq, Repr

/-- The pattern generator: shift register (stage 1 is bit 0), place in the user pattern, and whether
the next bit sent is inverted (R146, R147). -/
structure Generator where
  register : BitVec 15 := 0x7FFF
  place : Nat := 0
  invertNext : Bool := false
deriving DecidableEq, Repr

/-- An effect on port C that waits for the completion of its order's reply (R135, R145, R148). -/
inductive DeferredAction
  | rateChange
  | enterTest (settings : TestSettings)
  | reset
deriving DecidableEq, Repr

/-- What a telegram of the part is (R141). -/
inductive OwnKind
  | command (pump : PumpId) (serial : Nat)
  | reply (deferred : Option DeferredAction)
  | alert
deriving DecidableEq, Repr

/-- A telegram the part originated: what it is and its bytes. -/
structure OwnTelegram where
  kind : OwnKind
  bytes : List Byte
deriving DecidableEq, Repr

/-- A telegram in transmission (R142). -/
inductive Sending
  | own (telegram : OwnTelegram)
  | pass (bytes : List Byte)
deriving DecidableEq, Repr

/-- One line port: parameter record, state, receiver, counts, queues and test state. -/
structure PortRecord where
  rate : LineRate := .r19200
  lossCount : Nat := 64
  counterClass : CounterClass := .checkFail
  latchMode : LatchMode := .auto
  state : PortState := .down
  intervals : Nat := 0
  receiver : Receiver := {}
  live : Nat := 0
  holding : Nat := 0
  own : List OwnTelegram := []
  pass : List (List Byte) := []
  sending : Option Sending := none
  insertHeld : Bool := false
  test : Option TestSettings := none
  generator : Generator := {}
  checker : Checker := {}
  errorFlagged : Bool := false
  testTimer : Timer := .idle
deriving DecidableEq, Repr

/-! ### The whole -/

/-- Why a command could stop the block: the spec gives no such case, so there is no fault at all. -/
inductive Fault
deriving DecidableEq, Repr

/-- Why the model could decline a command. Raised by no meaning: every row has one. -/
inductive Refusal
  /-- The row has no meaning yet. Raised by a refused arm of Machine/Dispatch.lean, of which there is
  none; safe: the model stops where the part goes on. -/
  | notModelled (mnemonic : String)
deriving DecidableEq, Repr

/-- The state of the part, the commands waiting for it, and two fields of the model's own: the
choices that order the blocks (notes/assumptions/2.md) and the telegram serial
(notes/assumptions/7.md). -/
structure State where
  zones : Vector Zone 16
  houses : Vector House 12
  tracker : TrackerCounts
  pumps : Vector Pump 48
  profiles : Vector (List ProfilePoint) 8
  queue : List QueueEntry
  feeders : Vector Feeder 4
  interlocks : Vector Interlock 32
  inputs : Vector InputLine 4
  clock : Clock
  plan : Plan
  general : General
  authority : Authority
  events : Events
  switch : Switch
  portC : PortRecord
  portF1 : PortRecord
  portF2 : PortRecord
  serial : Nat
  choices : List Nat
  pending : List Instr
deriving DecidableEq, Repr

/-- The part right after a cold reset (R149), with every pin LOW and the straps at 0
(notes/assumptions/4.md), no command waiting and no choices given. -/
def State.reset : State where
  zones := Vector.replicate 16 {}
  houses := Vector.replicate 12 {}
  tracker := {}
  pumps := Vector.replicate 48 {}
  profiles := Vector.replicate 8 []
  queue := []
  feeders := Vector.replicate 4 {}
  interlocks := Vector.replicate 32 {}
  inputs := Vector.replicate 4 {}
  clock := {}
  plan := {}
  general := {}
  authority := {}
  events := {}
  switch := {}
  portC := {}
  portF1 := {}
  portF2 := {}
  serial := 0
  choices := []
  pending := []

end Sys2Proof.Machine
end

