-- ==== Sys2Proof/Machine/Operands.lean ====
section
/-! DEFINITION. The byte layouts of chapter 11: header and check word, report items, pump settings, load bodies, result codes; and the fields of each load with their ranges (R1, R16, R38, R77, R106, R135, R150, R151, R164). -/

namespace Sys2Proof.Machine

/-! ### Bytes -/

/-- A quantity of two bytes, most significant first (R172). -/
def be16 (w : BitVec 16) : List Byte := [w.extractLsb' 8 8, w.extractLsb' 0 8]

/-- A quantity of four bytes, most significant first (R172). -/
def be32 (w : BitVec 32) : List Byte :=
  [w.extractLsb' 24 8, w.extractLsb' 16 8, w.extractLsb' 8 8, w.extractLsb' 0 8]

/-- One byte of a number. -/
def byte (n : Nat) : Byte := BitVec.ofNat 8 n

/-- Two bytes of a number. -/
def be16Nat (n : Nat) : List Byte := be16 (BitVec.ofNat 16 n)

/-! ### Check word (R173) -/

/-- One data bit into the check register (R173). -/
def crcBit (r : BitVec 16) (d : Bool) : BitVec 16 :=
  if r.msb != d then (r <<< 1) ^^^ 0x1021#16 else r <<< 1

/-- One byte into the check register, most significant bit first (R173). -/
def crcByte (r : BitVec 16) (b : Byte) : BitVec 16 :=
  [7, 6, 5, 4, 3, 2, 1, 0].foldl (fun r n => crcBit r (b.getLsbD n)) r

/-- The check word over header and items (R173). -/
def checkWord (l : List Byte) : BitVec 16 := l.foldl crcByte 0xFFFF#16

/-- An error insertion: the least significant bit of the second check word byte, the telegram's last
byte, is inverted (R147, R173). -/
def invertCheck : List Byte → List Byte
  | [] => []
  | [b] => [b ^^^ 1#8]
  | b :: rest => b :: invertCheck rest

/-! ### Header and kinds (R172) -/

def kindLevelReport : Byte := 0x10
def kindPumpReport : Byte := 0x11
def kindPumpSet : Byte := 0x20
def kindTimeSet : Byte := 0x30
def kindPartLoad : Byte := 0x40
def kindPartRead : Byte := 0x41
def kindPartOrder : Byte := 0x42
def kindPartReply : Byte := 0x50
def kindPartAlert : Byte := 0x51

/-- The management kinds (R152). -/
def isManagementKind (k : Byte) : Bool :=
  k == kindTimeSet || k == kindPartLoad || k == kindPartRead || k == kindPartOrder

/-- A telegram as the switch sees it: addresses from bits 5 to 0 (R172). -/
structure Telegram where
  destination : Addr
  source : Addr
  kind : Byte
  items : List Byte
deriving DecidableEq, Repr

/-- The header and the item bytes of a telegram (R172); the address bits 7 and 6 are 0. -/
def Telegram.body (t : Telegram) : List Byte :=
  t.destination.setWidth 8 :: t.source.setWidth 8 :: t.kind :: byte t.items.length :: t.items

/-- A telegram the part composes, with its check word (R172, R173). -/
def Telegram.bytes (t : Telegram) : List Byte := t.body ++ be16 (checkWord t.body)

/-- What R140 finds in the bytes between a start mark and an end mark. -/
inductive Received
  | badLength
  | badCheck
  | telegram (t : Telegram)
deriving DecidableEq, Repr

/-- The checks of R140, length before check word. -/
def checkReceived (bytes : List Byte) : Received :=
  if bytes.length < 6 || 62 < bytes.length then .badLength
  else
    match bytes with
    | dst :: src :: kind :: count :: rest =>
      let n := rest.length - 2
      if count.toNat != n then .badLength
      else if rest.drop n != be16 (checkWord (bytes.take (n + 4))) then .badCheck
      else .telegram
        { destination := dst.setWidth 6, source := src.setWidth 6, kind := kind,
          items := rest.take n }
    | _ => .badLength

/-! ### Items (R174, R175, R176) -/

/-- The whole items of a LEVEL_REPORT; trailing bytes are ignored (R174). -/
def levelItems : List Byte → List LevelItem
  | z :: h :: l :: q :: rest => { zone := z, level := h ++ l, quality := q } :: levelItems rest
  | _ => []

/-- The whole items of a PUMP_REPORT; trailing bytes are ignored (R174). -/
def pumpItems : List Byte → List PumpItem
  | n :: f :: v :: rest => { index := n, flags := f, speed := v } :: pumpItems rest
  | _ => []

/-- One item of a PUMP_SET (R175). -/
structure SetItem where
  index : Byte
  command : Byte
  speed : Byte
  priority : Byte
deriving DecidableEq, Repr

/-- The whole items of a PUMP_SET (R175). -/
def setItems : List Byte → List SetItem
  | n :: c :: v :: p :: rest =>
    { index := n, command := c, speed := v, priority := p } :: setItems rest
  | _ => []

/-- A body of field entries, five bytes each; none unless it is a whole number of them (R176). -/
def fieldEntries : List Byte → Option (List FieldEntry)
  | [] => some []
  | c :: a :: b :: d :: e :: rest =>
    (fieldEntries rest).map ({ code := c, value := a ++ b ++ d ++ e } :: ·)
  | _ => none

/-- Profile points of three bytes (R176). -/
def pointBodies : List Byte → Option (List PointBody)
  | [] => some []
  | v :: h :: l :: rest => (pointBodies rest).map ({ speed := v, dwell := h ++ l } :: ·)
  | _ => none

/-- A profile body: the point count, then that many points (R176). -/
def profileBody : List Byte → Option (List PointBody)
  | [] => none
  | n :: rest =>
    match pointBodies rest with
    | some l => if l.length = n.toNat then some l else none
    | none => none

/-- An interlock body of nine bytes (R176). -/
def interlockBody : List Byte → Option InterlockBody
  | [ck, co, l1, l0, b1, b0, tk, tg, ac] =>
    some { causeKind := ck, causeObject := co, level := l1 ++ l0, band := b1 ++ b0,
           targetKind := tk, targetObject := tg, action := ac }
  | _ => none

/-- A plan body: empty for a bank clear, or one window (R176). -/
def planBody : List Byte → Option (Option WindowBody)
  | [] => some none
  | [s1, s0, o1, o0, c] => some (some { start := s1 ++ s0, offset := o1 ++ o0, cap := c })
  | _ => none

/-- The item of a PUMP_SET the part issues: STOP carries speed 0, and the priority is 0 (R175). -/
def PumpCommand.item (index : Nat) : PumpCommand → List Byte
  | .start v => [byte index, 1, byte v, 0]
  | .speed v => [byte index, 3, byte v, 0]
  | .stop => [byte index, 2, 0, 0]

/-! ### Result codes (R162, R177) -/

/-- The results a request can be answered with, in the order of R162. -/
inductive Result
  | done
  | queued
  | stopTaken
  | stopDeferred
  | speedSent
  | duplicate
  | queueFull
  | unavailable
  | locked
  | busy
  | notRunning
  | notRunningMode
  | notSupervised
  | badTable
  | badIndex
  | badValue
  | refusedMode
  | badConfig
  | causePresent
  | notComplete
deriving DecidableEq, Repr

/-- The code of a result in a PART_REPLY (R177). -/
def Result.code : Result → Byte
  | .done => 0
  | .queued => 1
  | .stopTaken => 2
  | .stopDeferred => 3
  | .speedSent => 4
  | .duplicate => 5
  | .queueFull => 6
  | .unavailable => 7
  | .locked => 8
  | .busy => 9
  | .notRunning => 10
  | .notRunningMode => 11
  | .notSupervised => 12
  | .badTable => 13
  | .badIndex => 14
  | .badValue => 15
  | .refusedMode => 16
  | .badConfig => 17
  | .causePresent => 18
  | .notComplete => 19

/-! ### Values of field entries (R176) -/

/-- yes is 1 and no is 0. -/
def yesNo (v : BitVec 32) : Option Bool :=
  if v = 0 then some false else if v = 1 then some true else none

/-- A number in a range. -/
def ranged (lo hi : Nat) (v : BitVec 32) : Option Nat :=
  if lo ≤ v.toNat ∧ v.toNat ≤ hi then some v.toNat else none

/-- The number of an object of which there are `n`. -/
def objectOf (n : Nat) (v : Nat) : Option (Fin n) := if h : v < n then some ⟨v, h⟩ else none

/-- The number of an object, or NONE, which is 255. -/
def objectOrNone (n : Nat) (v : BitVec 32) : Option (Option (Fin n)) :=
  if v = 255 then some none else (objectOf n v.toNat).map some

/-- A station address 0 to 62, or NONE, which is 255. -/
def addressOrNone (v : BitVec 32) : Option (Option Addr) :=
  if v = 255 then some none
  else if v.toNat ≤ 62 then some (some (v.setWidth 6)) else none

/-- Ports are indexed 0 for C, 1 for F1 and 2 for F2 (R176). -/
def portOf (b : Byte) : Option Port :=
  if b = 0 then some .c else if b = 1 then some .f1 else if b = 2 then some .f2 else none

/-- The entries name fields of the table, each at most once (R176). -/
def layoutOk (nFields : Nat) (l : List FieldEntry) : Bool :=
  l.all (fun e => 1 ≤ e.code.toNat && e.code.toNat ≤ nFields) && (l.map FieldEntry.code).Nodup

/-- Every field the load writes, into the record; none if a value lies outside its range (R163). -/
def writeFields {α : Type} (set : α → Nat → BitVec 32 → Option α) (r : α) (l : List FieldEntry) :
    Option α :=
  l.foldlM (fun r e => set r e.code.toNat e.value) r

/-- The fields of R1, by code. -/
def Zone.setField (z : Zone) (code : Nat) (v : BitVec 32) : Option Zone :=
  match code with
  | 1 => (yesNo v).map fun x => { z with inUse := x }
  | 2 => (addressOrNone v).map fun x => { z with reporter := x }
  | 3 => (ranged 0 32000 v).map fun x => { z with startLevel := x }
  | 4 => (ranged 0 32000 v).map fun x => { z with stopLevel := x }
  | 5 => (ranged 30 3600 v).map fun x => { z with staleLimit := x }
  | 6 => (ranged 0 4 v).map fun x => { z with smoothing := x }
  | 7 => (ranged 0 120 v).map fun x => { z with horizon := x }
  | 8 => (ranged 10 3600 v).map fun x => { z with stepDelay := x }
  | 9 => (ranged 0 600 v).map fun x => { z with settleTime := x }
  | 10 => (ranged 0 3 v).map fun x => { z with demandPriority := x }
  | _ => none

/-- The fields of R16, by code. -/
def House.setField (h : House) (code : Nat) (v : BitVec 32) : Option House :=
  match code with
  | 1 => (yesNo v).map fun x => { h with configured := x }
  | 2 => (addressOrNone v).map fun x => { h with address := x }
  | 3 => (ranged 10 3600 v).map fun x => { h with silenceLimit := x }
  | _ => none

/-- The fields of R38, by code. -/
def Pump.setField (p : Pump) (code : Nat) (v : BitVec 32) : Option Pump :=
  match code with
  | 1 => (yesNo v).map fun x => { p with configured := x }
  | 2 => (objectOrNone 16 v).map fun x => { p with sourceZone := x }
  | 3 => (objectOf 16 v.toNat).map fun x => { p with deliveryZone := x }
  | 4 => (objectOf 4 v.toNat).map fun x => { p with feeder := x }
  | 5 => (ranged 1 2000 v).map fun x => { p with ratedLoad := x }
  | 6 => (ranged 8 48 v).map fun x => { p with inrush := x }
  | 7 => (objectOrNone 8 v).map fun x => { p with startProfile := x }
  | 8 => (objectOrNone 8 v).map fun x => { p with stopProfile := x }
  | 9 => (ranged 16 48 v).map fun x => { p with speedTrim := x }
  | 10 => (ranged 0 100 v).map fun x => { p with minSpeed := x }
  | 11 => (ranged 0 100 v).map fun x => { p with maxSpeed := x }
  | 12 => (ranged 0 3600 v).map fun x => { p with minRun := x }
  | 13 => (ranged 0 3600 v).map fun x => { p with minOff := x }
  | 14 => (ranged 1 12 v).map fun x => { p with startsLimit := x }
  | 15 => (ranged 5 600 v).map fun x => { p with startConfirmLimit := x }
  | 16 => (ranged 5 600 v).map fun x => { p with stopConfirmLimit := x }
  | _ => none

/-- The single field of RUN_TIME (R39). -/
def Pump.setRunTime (p : Pump) (code : Nat) (v : BitVec 32) : Option Pump :=
  match code with
  | 1 => some { p with runTime := v.toNat }
  | _ => none

/-- The single field of FEEDER (R77). -/
def Feeder.setField (f : Feeder) (code : Nat) (v : BitVec 32) : Option Feeder :=
  match code with
  | 1 => (ranged 0 4000 v).map fun x => { f with limit := x }
  | _ => none

/-- A level by its position in the list "HIGH, LOW" (R106, R176). -/
def levelOf (v : BitVec 32) : Option PinLevel :=
  if v = 0 then some .high else if v = 1 then some .low else none

/-- The fields of R106, by code. -/
def InputLine.setField (l : InputLine) (code : Nat) (v : BitVec 32) : Option InputLine :=
  match code with
  | 1 => (levelOf v).map fun x => { l with activeLevel := x }
  | 2 =>
    match ranged 0 1000 v with
    | some x => if x % 10 = 0 then some { l with filterTime := x } else none
    | none => none
  | _ => none

/-- A route entry: 0 NONE, 1 F1, 2 F2 (R176). -/
def routeOf (v : BitVec 32) : Option (Option FieldPort) :=
  if v = 0 then some none
  else if v = 1 then some (some .f1) else if v = 2 then some (some .f2) else none

/-- The single field of ROUTE (R151). -/
def setRouteField (_ : Option FieldPort) (code : Nat) (v : BitVec 32) :
    Option (Option FieldPort) :=
  match code with
  | 1 => routeOf v
  | _ => none

/-- The single field of SWITCH (R150). -/
def setControlField (_ : Addr) (code : Nat) (v : BitVec 32) : Option Addr :=
  match code with
  | 1 => if v.toNat ≤ 62 then some (v.setWidth 6) else none
  | _ => none

/-- The fields of R135, by code; each value is a position in its list. DESIGN CHOICE for the line rate
and the loss count, which R135 lists as numbers: R176 gives the position to a value from a named list
(notes/assumptions/31.md). -/
def PortRecord.setField (p : PortRecord) (code : Nat) (v : BitVec 32) : Option PortRecord :=
  match code with
  | 1 => ([.r9600, .r19200, .r38400, .r76800] : List LineRate)[v.toNat]?.map
      fun x => { p with rate := x }
  | 2 => ([32, 64, 128, 256] : List Nat)[v.toNat]?.map fun x => { p with lossCount := x }
  | 3 => ([.codeViolation, .checkFail, .length, .dropped, .allErrors, .pattern] :
      List CounterClass)[v.toNat]?.map fun x => { p with counterClass := x }
  | 4 => ([.auto, .manual] : List LatchMode)[v.toNat]?.map fun x => { p with latchMode := x }
  | _ => none

/-- The fields of R164, by code. -/
def General.setField (g : General) (code : Nat) (v : BitVec 32) : Option General :=
  match code with
  | 1 => (ranged 10 1800 v).map fun x => { g with waitLimit := x }
  | 2 => (ranged 1 15 v).map fun x => { g with bypassLimit := x }
  | 3 => (yesNo v).map fun x => { g with fallbackEnabled := x }
  | 4 => (ranged 10 3600 v).map fun x => { g with controlSilenceLimit := x }
  | 5 => (ranged 10 3600 v).map fun x => { g with fallbackDelay := x }
  | 6 => (ranged 1 60 v).map fun x => { g with alertHoldoff := x }
  | 7 => (ranged 0 65535 v).map fun x => { g with enableSet := BitVec.ofNat 16 x }
  | _ => none

/-! ### Record bodies (R42, R91, R114) -/

/-- A profile point within its ranges (R42). -/
def pointOf (b : PointBody) : Option ProfilePoint :=
  if b.speed.toNat ≤ 100 ∧ 1 ≤ b.dwell.toNat ∧ b.dwell.toNat ≤ 600 then
    some { speed := b.speed.toNat, dwell := b.dwell.toNat }
  else none

/-- A point list of at most 12 points, each within its ranges (R42). -/
def profileOf (l : List PointBody) : Option (List ProfilePoint) :=
  if l.length ≤ Config.profilePoints then l.mapM pointOf else none

/-- The cause of an interlock body: none inside is NONE, none outside is a refusal (R91, R176). -/
def interlockCause (b : InterlockBody) : Option (Option Cause) :=
  let levels := b.level.toNat ≤ 32000 ∧ b.band.toNat ≤ 2000
  match b.causeKind.toNat with
  | 0 => some none
  | 1 =>
    if levels then (objectOf 16 b.causeObject.toNat).map
      fun z => some (.zoneAtOrBelow z b.level.toNat b.band.toNat) else none
  | 2 =>
    if levels then (objectOf 16 b.causeObject.toNat).map
      fun z => some (.zoneAtOrAbove z b.level.toNat b.band.toNat) else none
  | 3 => (objectOf 16 b.causeObject.toNat).map fun z => some (.zoneNotLive z)
  | 4 => (objectOf 4 b.causeObject.toNat).map fun l => some (.inputActive l)
  | 5 => (objectOf 12 b.causeObject.toNat).map fun h => some (.houseNotOnline h)
  | _ => none

/-- The target of an interlock body (R91, R176). -/
def interlockTarget (b : InterlockBody) : Option Target :=
  let n := b.targetObject.toNat
  match b.targetKind.toNat with
  | 0 => (objectOf 48 n).map .pump
  | 1 => (objectOf 12 n).map .house
  | 2 => (objectOf 4 n).map .feeder
  | 3 => (objectOf 16 n).map .supplyZone
  | 4 => (objectOf 16 n).map .deliveryZone
  | 5 => some .all
  | _ => none

/-- The action of an interlock body (R91, R176). -/
def interlockAction (b : InterlockBody) : Option Action :=
  match b.action.toNat with
  | 0 => some .tripLatch
  | 1 => some .tripFollow
  | 2 => some .inhibit
  | _ => none

/-- The content of an interlock body; none outside is a refusal, none inside an empty content (R91;
notes/assumptions/18.md for a cause NONE with a bad target). -/
def interlockContent (b : InterlockBody) : Option (Option InterlockContent) :=
  match interlockCause b, interlockTarget b, interlockAction b with
  | some c, some t, some a => some (c.map fun c => { cause := c, target := t, action := a })
  | _, _, _ => none

/-- A window within its ranges (R114). -/
def windowOf (b : WindowBody) : Option Window :=
  if b.start.toNat ≤ 1439 ∧ -2000 ≤ b.offset.toInt ∧ b.offset.toInt ≤ 2000 ∧
      50 ≤ b.cap.toNat ∧ b.cap.toNat ≤ 100 then
    some { start := b.start.toNat, offset := b.offset.toInt, cap := b.cap.toNat }
  else none

/-- The settings of a test within their ranges (R145). -/
def testSettingsOf (b : TestBody) : Option TestSettings :=
  match ([.prbs9, .prbs15, .user] : List Pattern)[b.pattern.toNat]?, b.invert.toNat with
  | some p, 0 =>
    if b.duration.toNat ≤ 3600 then
      some { pattern := p, user := b.user, invert := false, duration := b.duration.toNat }
    else none
  | some p, 1 =>
    if b.duration.toNat ≤ 3600 then
      some { pattern := p, user := b.user, invert := true, duration := b.duration.toNat }
    else none
  | _, _ => none

end Sys2Proof.Machine
end

