-- ==== Sys2Proof/Machine/Ops.lean ====
section
/-! DEFINITION. The shared operations: the working state of one step with its agenda of notifications, accessors, timers, counts, lockout sets, the demand and budget arithmetic (R22 to R28, R35 to R37, R43), and the questions the blocks ask of the tables. -/

namespace Sys2Proof.Machine

/-! ### The working state of one step -/

/-- A notification one block has sent another that is not yet taken. -/
inductive Reaction
  /-- The hand-over of an accepted GOOD or SUSPECT reading to the demand unit (R12). -/
  | reading (zone : ZoneId) (level : Nat) (quality : Quality) (time : Count)
  /-- A change of a zone's level or state, to the interlock unit (R13); `live` says that the zone
  reached (true) or left (false) LIVE. -/
  | zoneChanged (zone : ZoneId) (level : Option Nat) (live : Option Bool)
  /-- A change of a house's comm state, to the interlock unit (R19). -/
  | houseCause (house : HouseId) (online : Bool)
  /-- A change of a house's comm state, to the sequencer (R19, R62). -/
  | housePause (house : HouseId) (online : Bool)
  /-- A change of a supplying pump, to the demand unit of its zone (R30, R69). -/
  | reconcile (zone : ZoneId)
  /-- An event that calls for a grant evaluation (R80). -/
  | evaluate
  /-- An event that calls for the test of stops pending into a zone (R55). -/
  | stopTest (zone : ZoneId)
deriving DecidableEq, Repr

/-- Who takes a notification. Zones are reconciled independently of each other (R30), so the demand
unit counts once for each zone. -/
inductive Agent
  | demand (zone : ZoneId)
  | interlock
  | sequencer
  | arbiter
deriving DecidableEq, Repr

/-- The block that takes a notification. -/
def Reaction.agent : Reaction → Agent
  | .reading z _ _ _ => .demand z
  | .zoneChanged _ _ _ => .interlock
  | .houseCause _ _ => .interlock
  | .housePause _ _ => .sequencer
  | .reconcile z => .demand z
  | .evaluate => .arbiter
  | .stopTest _ => .sequencer

/-- The state while a step is taken: the notifications not yet taken, in order of sending; whether
the responder is taking a telegram whose reply is not yet placed; and whether an alert trigger has
arisen meanwhile (R170). -/
structure Work extends State where
  agenda : List Reaction
  replying : Bool
  offerOwed : Bool
deriving DecidableEq, Repr

/-- A step begins with no notification outstanding. -/
def Work.of (s : State) : Work :=
  { toState := s, agenda := [], replying := false, offerOwed := false }

/-- A notification joins the agenda. -/
def Work.push (w : Work) (r : Reaction) : Work := { w with agenda := w.agenda ++ [r] }

/-- A notification joins the agenda if a condition holds. -/
def Work.pushIf (w : Work) (c : Bool) (r : Reaction) : Work := if c then w.push r else w

/-- The agents with a notification waiting, each once, in the order of their oldest. -/
def waitingAgents : List Reaction → List Agent
  | [] => []
  | r :: rest => r.agent :: (waitingAgents rest).filter (· ≠ r.agent)

/-- The oldest notification of an agent, and the agenda without it. -/
def takeFirstOf (a : Agent) : List Reaction → Option (Reaction × List Reaction)
  | [] => none
  | r :: rest =>
    if r.agent = a then some (r, rest)
    else (takeFirstOf a rest).map fun x => (x.1, r :: x.2)

/-- The next notification to be taken. Where several blocks have one waiting, either may act first:
the model's choices decide, and where none is left the oldest is taken (notes/assumptions/2.md). -/
def Work.next (w : Work) : Option (Reaction × Work) :=
  match waitingAgents w.agenda with
  | [] => none
  | [a] => (takeFirstOf a w.agenda).map fun x => (x.1, { w with agenda := x.2 })
  | a :: others =>
    let agents := a :: others
    let chosen := agents.getD (w.choices.headD 0 % agents.length) a
    (takeFirstOf chosen w.agenda).map fun x =>
      (x.1, { w with agenda := x.2, choices := w.choices.tail })

/-! ### Accessors -/

/-- The record of a port. -/
def State.port (s : State) : Port → PortRecord
  | .c => s.portC
  | .f1 => s.portF1
  | .f2 => s.portF2

/-- The record of a port, written. -/
def Work.setPort (w : Work) (p : Port) (r : PortRecord) : Work :=
  match p with
  | .c => { w with portC := r }
  | .f1 => { w with portF1 := r }
  | .f2 => { w with portF2 := r }

/-- A zone record, written. -/
def Work.setZone (w : Work) (z : ZoneId) (r : Zone) : Work :=
  { w with zones := w.zones.set z r }

/-- A house record, written. -/
def Work.setHouse (w : Work) (h : HouseId) (r : House) : Work :=
  { w with houses := w.houses.set h r }

/-- A pump record, written, with no notification. -/
def Work.setPump (w : Work) (p : PumpId) (r : Pump) : Work :=
  { w with pumps := w.pumps.set p r }

/-- An interlock entry, written. -/
def Work.setInterlock (w : Work) (e : EntryId) (r : Interlock) : Work :=
  { w with interlocks := w.interlocks.set e r }

/-- An input line, written. -/
def Work.setInput (w : Work) (l : LineId) (r : InputLine) : Work :=
  { w with inputs := w.inputs.set l r }

/-- A feeder record, written. -/
def Work.setFeeder (w : Work) (f : FeederId) (r : Feeder) : Work :=
  { w with feeders := w.feeders.set f r }

/-- The start queue, written. -/
def Work.setQueue (w : Work) (q : List QueueEntry) : Work := { w with queue := q }

/-- The time state, written. -/
def Work.setClock (w : Work) (c : Clock) : Work := { w with clock := c }

/-- The plan banks, written. -/
def Work.setPlan (w : Work) (x : Plan) : Work := { w with plan := x }

/-- The general parameters, written. -/
def Work.setGeneral (w : Work) (g : General) : Work := { w with general := g }

/-- The mode and the fallback state, written. -/
def Work.setAuthority (w : Work) (a : Authority) : Work := { w with authority := a }

/-- The event table, written. -/
def Work.setEvents (w : Work) (e : Events) : Work := { w with events := e }

/-- The switch's addresses, routes and counts, written. -/
def Work.setSwitch (w : Work) (x : Switch) : Work := { w with switch := x }

/-- The tracker's counts, written. -/
def Work.setTracker (w : Work) (x : TrackerCounts) : Work := { w with tracker := x }

/-- Whether the responder is taking a telegram (R170), written. -/
def Work.setReplying (w : Work) (b : Bool) : Work := { w with replying := b }

/-- Whether an alert trigger waits for the reply (R170), written. -/
def Work.setOwed (w : Work) (b : Bool) : Work := { w with offerOwed := b }

/-- A table computed record by record. -/
def tabulate {α : Type} {n : Nat} (f : Fin n → α) : Vector α n := ⟨⟨List.ofFn f⟩, by simp⟩

def allZones : List ZoneId := List.finRange 16
def allHouses : List HouseId := List.finRange 12
def allPumps : List PumpId := List.finRange 48
def allFeeders : List FeederId := List.finRange 4
def allEntries : List EntryId := List.finRange 32
def allPorts : List Port := [.c, .f1, .f2]

/-- The monotonic count. -/
def State.now (s : State) : Count := s.clock.mono

/-! ### Timers and counts -/

/-- Tenths from one reading of the monotonic count to another, modulo 2^32 (R111). -/
def elapsed (start now : Count) : Nat := (now - start).toNat

/-- The timer's expiry has been reached. -/
def Timer.due (t : Timer) (now : Count) : Bool :=
  match t with
  | .idle => false
  | .running start d => d ≤ elapsed start now

/-- The timer is idle (for min run and min off: expired). -/
def Timer.isIdle : Timer → Bool
  | .idle => true
  | .running _ _ => false

/-- A running timer with another duration from the same start. -/
def Timer.retime (t : Timer) (d : Nat) : Timer :=
  match t with
  | .idle => .idle
  | .running start _ => .running start d

/-- A timer once its limit has been loaded: timed anew from the same start, and idle where the new limit
has passed (R17, R130). -/
def Timer.retimed (t : Timer) (d : Nat) (now : Count) : Timer :=
  if (t.retime d).due now then .idle else t.retime d

/-- The remaining tenths of a running timer. -/
def Timer.remaining (t : Timer) (now : Count) : Option Nat :=
  match t with
  | .idle => none
  | .running start d => some (d - elapsed start now)

/-- The timer's expiry has been reached; a paused timer does not expire (R62). -/
def PausableTimer.due (t : PausableTimer) (now : Count) : Bool :=
  match t with
  | .running start d => d ≤ elapsed start now
  | _ => false

/-- A running timer is paused with its remaining time (R62). -/
def PausableTimer.pause (t : PausableTimer) (now : Count) : PausableTimer :=
  match t with
  | .running start d => .paused (d - elapsed start now)
  | t => t

/-- A paused timer runs again from its remaining time (R62). -/
def PausableTimer.resume (t : PausableTimer) (now : Count) : PausableTimer :=
  match t with
  | .paused d => .running now d
  | t => t

/-- A count is raised by one and stays at 65 535 (R7, R143, R161). -/
def raise (n : Nat) : Nat := if n < Config.countLimit then n + 1 else n

/-! ### Arithmetic -/

/-- A value clamped to a range (00_scope section 5). -/
def clampNat (lo hi x : Nat) : Nat := max lo (min hi x)

/-- A value clamped to a range. -/
def clampInt (lo hi x : Int) : Int := max lo (min hi x)

/-- A level clamped to 0 to 32 000 mm. -/
def clampLevel (x : Int) : Nat := (clampInt 0 Config.levelLimit x).toNat

/-- The raw slope (R23): exact, truncated toward zero, then clamped. -/
def rawSlope (level base : Nat) (dt : Nat) : Int :=
  clampInt (-32768) 32767 ((((level : Int) - (base : Int)) * 9600).tdiv (dt : Int))

/-- The smoothed trend (R24): the quotient rounds toward minus infinity. -/
def smoothTrend (trend slope : Int) (k : Nat) : Int := trend + (slope - trend).fdiv (2 ^ k)

/-- The forecast (R25): the quotient is truncated toward zero. -/
def forecastOf (level : Nat) (trend : Int) (horizon : Nat) : Nat :=
  clampLevel ((level : Int) + (trend * (horizon : Int)).tdiv 16)

/-- An edge of the effective band (R26). -/
def shiftLevel (level : Nat) (offset : Int) : Nat := clampLevel ((level : Int) + offset)

/-- What an evaluation on a reading decides of the slope base and the trend (R22 to R24). -/
def slopeDecision (z : Zone) (level : Nat) (q : Quality) (t : Count) : Option SlopeBase × Int :=
  match z.slopeBase with
  | none => (some { level := level, time := t }, 0)
  | some b =>
    let dt := elapsed b.time t
    if q = .suspect then (some b, z.trend)
    else if z.staleLimit * 10 < dt then (some { level := level, time := t }, 0)
    else if dt < 20 then (some b, z.trend)
    else (some { level := level, time := t },
          smoothTrend z.trend (rawSlope level b.level dt) z.smoothing)

/-- The start charge (R35): rated load × inrush / 8, rounded up. -/
def Pump.startCharge (p : Pump) : Nat := (p.ratedLoad * p.inrush + 7) / 8

/-- The last report says RUNNING (R15). -/
def Pump.reportsRunning (p : Pump) : Bool :=
  match p.report with
  | some r => r.running
  | none => false

/-- The last report offers the pump (R47). -/
def PumpReport.offers (r : PumpReport) : Bool := r.available && !r.tripped

/-- The last report is present and offers the pump. -/
def Pump.offered (p : Pump) : Bool :=
  match p.report with
  | some r => r.offers
  | none => false

/-- The charge of a pump on its feeder (R35). -/
def Pump.charge (p : Pump) : Nat :=
  if p.configured then
    match p.state with
    | .starting => p.startCharge
    | .running => p.ratedLoad
    | .stopping => p.ratedLoad
    | .off => 0
    | .queued => 0
    | .unknown => if p.reportsRunning then p.ratedLoad else 0
    | .locked => if p.reportsRunning then p.ratedLoad else 0
    | .unavailable => if p.reportsRunning then p.ratedLoad else 0
  else 0

/-- The command speed of a profile point (R43): trimmed, rounded half up, then clamped. -/
def Pump.commandSpeed (p : Pump) (pointSpeed : Nat) : Nat :=
  clampNat p.minSpeed p.maxSpeed ((pointSpeed * p.speedTrim + 16) / 32)

/-! ### Lockout sets (R41) -/

/-- A lockout member. -/
inductive Member
  | entry (entry : EntryId)
  | internal (cause : InternalCause)
deriving DecidableEq, Repr

/-- The mask bit of an entry. -/
def entryBit (e : EntryId) : BitVec 32 := BitVec.twoPow 32 e.val

/-- The set holds no member. -/
def Lockout.isEmpty (l : Lockout) : Bool :=
  l.entries == 0 && !l.failToStart && !l.failToStop && !l.outstationTrip

/-- The set holds the member. -/
def Lockout.has (l : Lockout) : Member → Bool
  | .entry e => l.entries.getLsbD e.val
  | .internal .failToStart => l.failToStart
  | .internal .failToStop => l.failToStop
  | .internal .outstationTrip => l.outstationTrip

/-- The set holds the entry as a FOLLOW member. -/
def Lockout.hasFollow (l : Lockout) (e : EntryId) : Bool :=
  l.entries.getLsbD e.val && !l.latched.getLsbD e.val

/-- A member joins the set; one already present keeps its tag (R41). -/
def Lockout.add (l : Lockout) (m : Member) (t : Tag) : Lockout :=
  match m with
  | .entry e =>
    if l.entries.getLsbD e.val then l
    else
      { l with
        entries := l.entries ||| entryBit e
        latched := if t = .latched then l.latched ||| entryBit e
                   else l.latched &&& ~~~ (entryBit e) }
  | .internal .failToStart => { l with failToStart := true }
  | .internal .failToStop => { l with failToStop := true }
  | .internal .outstationTrip => { l with outstationTrip := true }

/-- A member leaves the set. -/
def Lockout.remove (l : Lockout) : Member → Lockout
  | .entry e =>
    { l with entries := l.entries &&& ~~~ (entryBit e), latched := l.latched &&& ~~~ (entryBit e) }
  | .internal .failToStart => { l with failToStart := false }
  | .internal .failToStop => { l with failToStop := false }
  | .internal .outstationTrip => { l with outstationTrip := false }

/-- What a warm restart leaves of a set: the LATCHED members (R40). -/
def Lockout.latchedOnly (l : Lockout) : Lockout :=
  { l with entries := l.entries &&& l.latched, latched := l.entries &&& l.latched }

/-- A state a pump would take, or LOCKED if its lockout set holds a member (R41, R73). -/
def Pump.orLocked (p : Pump) (st : PumpState) : PumpState :=
  if p.lockout.isEmpty then st else .locked

/-! ### Questions of the tables -/

/-- The house of a pump (section 3.1). -/
def houseOf (p : PumpId) : HouseId := ⟨p.val / 4, by omega⟩

/-- The local index of a pump. -/
def localIndex (p : PumpId) : Nat := p.val % 4

/-- The pump of a house at a local index, 0 to 3. -/
def pumpAt (h : HouseId) (n : Nat) : Option PumpId :=
  if hn : n < 4 then some ⟨4 * h.val + n, by omega⟩ else none

/-- The port of a field port. -/
def FieldPort.port : FieldPort → Port
  | .f1 => .f1
  | .f2 => .f2

/-- The route entry of a station. -/
def State.routeTo (s : State) (a : Addr) : Option Port :=
  (s.switch.route[a.toNat]).map FieldPort.port

/-- The port that reaches a house: the route entry of its station address (R18, R44). -/
def State.housePort (s : State) (h : HouseId) : Option Port :=
  match s.houses[h].address with
  | some a => s.routeTo a
  | none => none

/-- The house is ONLINE. -/
def State.online (s : State) (h : HouseId) : Bool := s.houses[h].comm == .online

/-- The configured house at a station address (R14); addresses are unique among them (R16). -/
def State.houseAt (s : State) (a : Addr) : Option HouseId :=
  allHouses.find? fun h => s.houses[h].configured && s.houses[h].address == some a

/-- The configured supplying pumps of a zone, in ascending number. -/
def State.supplying (s : State) (z : ZoneId) : List PumpId :=
  allPumps.filter fun p => s.pumps[p].configured && s.pumps[p].deliveryZone == z

/-- The pump is active for its delivery zone (section 2.8). -/
def Pump.active (p : Pump) : Bool :=
  match p.state with
  | .queued => true
  | .starting => true
  | .running => !p.stopPending
  | _ => false

/-- The pump is counted available (R27). -/
def Pump.available (p : Pump) : Bool :=
  (match p.state with
    | .locked => false
    | .unavailable => false
    | .unknown => false
    | _ => true) && p.inhibit == 0

/-- The active supplying pumps of a zone. -/
def State.activeCount (s : State) (z : ZoneId) : Nat :=
  ((s.supplying z).filter fun p => s.pumps[p].active).length

/-- The available count of a zone (R27). -/
def State.availableCount (s : State) (z : ZoneId) : Nat :=
  ((s.supplying z).filter fun p => s.pumps[p].available).length

/-- The level offset in force (R26, R116). -/
def State.offset (s : State) : Int :=
  match s.plan.inForce with
  | none => 0
  | some x => x.offset

/-- The feeder cap in force (R36, R116). -/
def State.cap (s : State) : Nat :=
  match s.plan.inForce with
  | none => 100
  | some x => x.cap

/-- The effective limit of a feeder (R36). -/
def State.effectiveLimit (s : State) (f : FeederId) : Nat :=
  s.feeders[f].limit * s.cap / 100

/-- The committed load of a feeder (R36): the charges of the configured pumps on it. -/
def State.committed (s : State) (f : FeederId) : Nat :=
  ((allPumps.filter fun p => s.pumps[p].feeder == f).map fun p => s.pumps[p].charge).sum

/-- A start of the pump fits its feeder (R37). -/
def State.fits (s : State) (p : PumpId) : Bool :=
  s.committed s.pumps[p].feeder + s.pumps[p].startCharge ≤ s.effectiveLimit s.pumps[p].feeder

/-- Some other pump delivering into the pump's zone is in one of the states given. -/
def State.zoneHolds (s : State) (p : PumpId) (states : List PumpState) : Bool :=
  (s.supplying s.pumps[p].deliveryZone).any fun q => q != p && states.contains s.pumps[q].state

/-- The queue holds an entry for the pump. -/
def State.entryOf (s : State) (p : PumpId) : Option QueueEntry :=
  s.queue.find? fun e => e.pump == p

/-- The points of a profile, if it is named and exists (R42). -/
def State.profilePoints (s : State) (n : Option ProfileId) : List ProfilePoint :=
  match n with
  | none => []
  | some i => s.profiles[i]

/-- A line is active when its accepted level is NONE or equals its active level (R106). -/
def InputLine.isActive (l : InputLine) : Bool :=
  match l.accepted with
  | none => true
  | some a => a == l.activeLevel

end Sys2Proof.Machine
end

