-- ==== Sys2Proof/Machine/Flags.lean ====
section
/-! DEFINITION. The event table and the alerts (R167 to R171), the error counts of the ports (R143), and the placing of a telegram in a transmit queue (R141). -/

namespace Sys2Proof.Machine

/-! ### Error counts (R143) -/

/-- The events a port counts. -/
inductive LineError
  | codeViolation
  | checkFail
  | length
  | dropped
  | pattern
deriving DecidableEq, Repr

/-- The event is of the class (the table of R143). -/
def CounterClass.counts (c : CounterClass) (e : LineError) : Bool :=
  match c, e with
  | .codeViolation, .codeViolation => true
  | .checkFail, .checkFail => true
  | .length, .length => true
  | .dropped, .dropped => true
  | .pattern, .pattern => true
  | .allErrors, .pattern => false
  | .allErrors, _ => true
  | _, _ => false

/-- The live error count after an event (R143). -/
def PortRecord.count (r : PortRecord) (e : LineError) : PortRecord :=
  if r.counterClass.counts e then { r with live := raise r.live } else r

/-- An event of a port is counted. -/
def Work.countError (w : Work) (p : Port) (e : LineError) : Work :=
  w.setPort p ((w.port p).count e)

/-- The live count is moved to the holding count (R144). -/
def PortRecord.latchCount (r : PortRecord) : PortRecord :=
  { r with holding := r.live, live := 0 }

/-! ### Transmit queues (R141) -/

/-- The port places a telegram of the part: it is UP and its own queue has room. -/
def PortRecord.takesOwn (r : PortRecord) : Bool :=
  r.state == .up && r.own.length < Config.ownCapacity

/-- The capacity of a port's pass queue (section 8.5). -/
def passCapacity : Port → Nat
  | .c => Config.controlPassCapacity
  | .f1 => Config.fieldPassCapacity
  | .f2 => Config.fieldPassCapacity

/-- The port places a pass telegram. -/
def PortRecord.takesPass (r : PortRecord) (capacity : Nat) : Bool :=
  r.state == .up && r.pass.length < capacity

/-- A telegram of the part at the tail of the port's own queue. -/
def Work.placeOwn (w : Work) (p : Port) (t : OwnTelegram) : Work :=
  w.setPort p { w.port p with own := (w.port p).own ++ [t] }

/-- A pass telegram is offered: placed at the tail, or dropped and counted DROPPED (R141). -/
def Work.offerPass (w : Work) (p : Port) (bytes : List Byte) : Work :=
  if (w.port p).takesPass (passCapacity p) then
    w.setPort p { w.port p with pass := (w.port p).pass ++ [bytes] }
  else w.countError p .dropped

/-! ### Flag kinds (R167) -/

/-- The place of a flag's kind in the table of R167, from 0. -/
def Flag.kindIndex : Flag → Nat
  | .pump .failToStart _ => 0
  | .pump .failToStop _ => 1
  | .pump .outstationTrip _ => 2
  | .pump .uncommandedRun _ => 3
  | .pump .uncommandedStop _ => 4
  | .pump .queueTimeout _ => 5
  | .zone .stale _ => 6
  | .zone .sensorFail _ => 7
  | .zone .thresholdCollapse _ => 8
  | .port .loss _ => 9
  | .port .testErrors _ => 10
  | .part .queueFull => 11
  | .part .modeFallback => 12
  | .part .planSwapped => 13
  | .part .planKept => 14
  | .part .rejectedTelegrams => 15

/-- The number of a port as an object (R176). -/
def portNumber : Port → Nat
  | .c => 0
  | .f1 => 1
  | .f2 => 2

/-- The object byte of a flag (R176). -/
def Flag.object : Flag → Byte
  | .pump _ p => byte p.val
  | .zone _ z => byte z.val
  | .port _ p => byte (portNumber p)
  | .part _ => 0

/-- The kind of the flag is enabled (R167). -/
def General.enables (g : General) (f : Flag) : Bool := g.enableSet.getLsbD f.kindIndex

/-- The flag is latched. -/
def Events.isLatched (e : Events) (f : Flag) : Bool := e.latched.any fun x => x.flag == f

/-! ### Alerts (R169, R170) -/

/-- The latched flags of enabled kinds, in latch order. -/
def State.alertFlags (s : State) : List Flag :=
  (s.events.latched.map LatchedFlag.flag).filter fun f => s.general.enables f

/-- The items of an alert: at most 12 flags, then the MORE marker if there are more (R169, R177). -/
def alertItems (flags : List Flag) : List Byte :=
  ((flags.take Config.alertItems).flatMap fun f => [byte (f.kindIndex + 1), f.object]) ++
    (if Config.alertItems < flags.length then [0xFF, 0xFF] else [])

/-- The PART_ALERT composed at this moment (R169). -/
def State.alertBytes (s : State) : List Byte :=
  Telegram.bytes
    { destination := s.switch.controlAddress, source := s.switch.partAddress,
      kind := kindPartAlert, items := alertItems s.alertFlags }

/-- The offer of R170: made only while an alert is pending, none is outstanding and the holdoff timer
is idle; with no enabled flag latched there is no alert to compose (R169). -/
def Work.offerAlert (w : Work) : Work :=
  if w.events.alertPending && !w.events.alertOutstanding && w.events.holdoff.isIdle then
    if w.alertFlags.isEmpty then w.setEvents { w.events with alertPending := false }
    else if w.portC.takesOwn then
      (w.placeOwn .c { kind := .alert, bytes := w.alertBytes }).setEvents
        { w.events with alertPending := false, alertOutstanding := true }
    else w
  else w

/-- An alert trigger (R169): alert pending becomes yes, and the offer follows, after the reply if a
management telegram is being taken (R170). -/
def Work.trigger (w : Work) : Work :=
  let w := w.setEvents { w.events with alertPending := true }
  if w.replying then w.setOwed true else w.offerAlert

/-- A request to latch a flag (R167): one that is latched stays as it is. -/
def Work.latch (w : Work) (f : Flag) : Work :=
  if w.events.isLatched f then w
  else
    let entry : LatchedFlag := { flag := f, count := w.now }
    let w := w.setEvents { w.events with latched := w.events.latched ++ [entry] }
    if w.general.enables f then w.trigger else w

end Sys2Proof.Machine
end

