-- ==== Sys2Proof/Machine/Sequencer.lean ====
section
/-! DEFINITION. The pump sequencer (chapter 3): how a change of a pump is notified (R69), how telegrams are issued (R44 to R46), how reports are taken (R47 to R50, R53, R58, R59), starts, stops and their timers (R51 to R57, R60 to R65), and lockout and inhibit changes (R66 to R68). -/

namespace Sys2Proof.Machine

/-! ### A change of a pump -/

/-- A pump takes a new record, with the notifications that R69 and R78 give for the change: an entry
that leaves the queue does so in the same step (R70); a lower charge or a pump leaving STARTING calls
for a grant evaluation (R80); a pump leaving STARTING or STOPPING calls for the test of stops pending
(R55); a change of state or of stop pending reaches the demand unit (R30). -/
def Work.commitPump (w : Work) (p : PumpId) (new : Pump) : Work :=
  let old := w.pumps[p]
  let leaves := old.state == .queued && new.state != .queued
  let w := w.setPump p new
  let w := if leaves then w.setQueue (w.queue.filter fun e => e.pump != p) else w
  let w := w.pushIf (leaves && new.state != .starting) .evaluate
  let w := w.pushIf (new.charge < old.charge ||
    (old.state == .starting && new.state != .starting)) .evaluate
  let w := w.pushIf ((old.state == .starting || old.state == .stopping) &&
    new.state != old.state) (.stopTest new.deliveryZone)
  w.pushIf (new.configured &&
    (new.state != old.state || new.stopPending != old.stopPending)) (.reconcile new.deliveryZone)

/-- A min run or min off timer of so many seconds; one of 0 expires at its start (R63). -/
def Work.limitTimer (w : Work) (seconds : Nat) : Timer :=
  if seconds = 0 then .idle else .running w.now (seconds * 10)

/-- A pump takes a new record with its min off timer started (R63); a min off of 0 expires at once,
which the arbiter is told. -/
def Work.commitResting (w : Work) (p : PumpId) (new : Pump) : Work :=
  (w.commitPump p { new with minOffTimer := w.limitTimer new.minOff }).pushIf
    (new.minOff == 0) .evaluate

/-- The settle timer of a zone is started (R85); a settle time of 0 gives a timer that expires at its
start, with the notifications of R86. -/
def Work.startSettle (w : Work) (z : ZoneId) : Work :=
  let zone := w.zones[z]
  if zone.settleTime = 0 then
    ((w.setZone z { zone with settleTimer := .idle }).push (.stopTest z)).push .evaluate
  else w.setZone z { zone with settleTimer := .running w.now (zone.settleTime * 10) }

/-- A confirm or dwell timer started now: running while the house is ONLINE, else paused with its full
duration (R62). -/
def Work.startPausable (w : Work) (p : PumpId) (tenths : Nat) : PausableTimer :=
  if w.online (houseOf p) then .running w.now tenths else .paused tenths

/-- An issued telegram whose profile has ended: its completion calls for nothing more. -/
def Issued.stale (t : Issued) : Issued := { t with step := none }

/-- The profile in progress ends (R49). -/
def Pump.endProfile (x : Pump) : Pump :=
  { x with position := none, issuePending := none, confirmTimer := .idle, dwellTimer := .idle,
           resendDone := false, awaited := x.awaited.map Issued.stale }

/-- The position that a telegram issued now is for, none outside a profile (R44). -/
def Pump.stepNow (x : Pump) : Option Position :=
  match x.state with
  | .starting => x.position
  | .stopping => x.position
  | _ => none

/-! ### Issuing telegrams (R44 to R46) -/

/-- The PUMP_SET telegram of a command for a pump at a station (R44, R175). -/
def State.commandBytes (s : State) (station : Addr) (p : PumpId) (c : PumpCommand) : List Byte :=
  Telegram.bytes
    { destination := station, source := s.switch.partAddress, kind := kindPumpSet,
      items := c.item (localIndex p) }

/-- Where a telegram for a pump can be placed now: the house is ONLINE and the command queue of the
port that reaches it has room (R44). -/
def State.placement (s : State) (p : PumpId) : Option (Port × Addr) :=
  let h := houseOf p
  if s.online h then
    match s.houses[h].address with
    | some a =>
      match s.routeTo a with
      | some port => if (s.port port).takesOwn then some (port, a) else none
      | none => none
    | none => none
  else none

/-- The next telegram of the part takes the next serial (notes/assumptions/7.md). -/
def Work.countSerial (w : Work) : Work := { w with serial := w.serial + 1 }

/-- A telegram is placed and becomes the pump's awaited telegram, or becomes its issue pending (R44). -/
def Work.issueOne (w : Work) (p : PumpId) (c : PumpCommand) : Work :=
  match w.placement p with
  | some (port, a) =>
    let w := w.placeOwn port
      { kind := .command p w.serial, bytes := w.commandBytes a p c }
    (w.setPump p { w.pumps[p] with
      awaited := some { serial := w.serial, command := c, step := w.pumps[p].stepNow }
      issuePending := none }).countSerial
  | none => w.setPump p { w.pumps[p] with issuePending := some c }

/-- One pump's issue pending is tried (R45). -/
def Work.tryPending (w : Work) (port : Port) (p : PumpId) : Work :=
  match w.pumps[p].issuePending with
  | some c => if w.housePort (houseOf p) = some port then w.issueOne p c else w
  | none => w

/-- Every issue pending served by a port is tried, in ascending pump number (R45). -/
def Work.placePending (w : Work) (port : Port) : Work :=
  allPumps.foldl (fun w p => w.tryPending port p) w

/-- A telegram is prepared and issued (R44), and the port's other issues pending are tried (R45). -/
def Work.issue (w : Work) (p : PumpId) (c : PumpCommand) : Work :=
  let w := w.issueOne p c
  match w.housePort (houseOf p) with
  | some port => w.placePending port
  | none => w

/-- A discarded command telegram that is its pump's awaited telegram becomes the issue pending, unless
a newer one stands (R45). -/
def Work.discarded (w : Work) (p : PumpId) (serial : Nat) : Work :=
  let x := w.pumps[p]
  match x.awaited, x.issuePending with
  | some t, none =>
    if t.serial = serial then
      w.setPump p { x with issuePending := some t.command, awaited := none }
    else w
  | _, _ => w

/-- On entry to CONFIG: every issue pending and awaited telegram is given up, and the field ports
remove the part's command telegrams that have not begun transmission (R46). -/
def Work.purgeCommands (w : Work) : Work :=
  { w with
    pumps := tabulate fun p => { w.pumps[p] with issuePending := none, awaited := none }
    portF1 := { w.portF1 with own := [] }
    portF2 := { w.portF2 with own := [] } }

/-! ### Stops (R54 to R56) -/

/-- The stop of a RUNNING pump may begin (R55). -/
def State.stopAllowed (s : State) (p : PumpId) : Bool :=
  s.pumps[p].minRunTimer.isIdle && s.zones[s.pumps[p].deliveryZone].settleTimer.isIdle &&
    !s.zoneHolds p [.starting, .stopping]

/-- The stop begins (R56): with the first point of the stop profile, or with STOP. -/
def Work.beginStop (w : Work) (p : PumpId) : Work :=
  let x : Pump := { w.pumps[p] with state := .stopping, resendDone := false, stopPending := false }
  match w.profilePoints x.stopProfile with
  | [] => (w.commitPump p { x with position := some .stop }).issue p .stop
  | pt :: _ =>
    (w.commitPump p { x with position := some (.point 0) }).issue p (.speed (x.commandSpeed pt.speed))

/-- The pumps of a zone whose stop pending now passes R55, in ascending number. -/
def State.stoppable (s : State) (z : ZoneId) : List PumpId :=
  (s.supplying z).filter fun p =>
    s.pumps[p].state == .running && s.pumps[p].stopPending && s.stopAllowed p

/-- The test of R55 for a zone: the stop begins for the lowest pump that passes, and the others then
fail the third condition. -/
def Work.testStops (w : Work) (z : ZoneId) : Work :=
  match w.stoppable z with
  | [] => w
  | p :: _ => w.beginStop p

/-- A stop request for a pump that is not QUEUED (R54). -/
def Work.stopTaken (w : Work) (p : PumpId) : Result × Work :=
  let x := w.pumps[p]
  match x.state with
  | .off => (.notRunning, w)
  | .queued => (.notRunning, w)
  | .starting => (.stopDeferred, w.commitPump p { x with stopPending := true })
  | .running =>
    if x.stopPending then (.stopDeferred, w)
    else if w.stopAllowed p then (.stopTaken, w.beginStop p)
    else (.stopDeferred, w.commitPump p { x with stopPending := true })
  | .stopping => (.stopTaken, w)
  | .unknown => if x.reportsRunning then (.stopTaken, w.issue p .stop) else (.notRunning, w)
  | .locked => if x.reportsRunning then (.stopTaken, w.issue p .stop) else (.notRunning, w)
  | .unavailable => if x.reportsRunning then (.stopTaken, w.issue p .stop) else (.notRunning, w)

/-- A speed request (R60). -/
def Work.speedRequest (w : Work) (p : PumpId) (percent : Nat) : Result × Work :=
  let x := w.pumps[p]
  match x.state with
  | .running => (.speedSent, w.issue p (.speed (clampNat x.minSpeed x.maxSpeed percent)))
  | .starting => (.busy, w)
  | .stopping => (.busy, w)
  | _ => (.notRunning, w)

/-- What the sequencer answers to a start request the arbiter hands it (R61). -/
def Work.startAnswered (w : Work) (p : PumpId) : Result × Work :=
  let x := w.pumps[p]
  match x.state with
  | .running =>
    if x.stopPending then (.done, w.commitPump p { x with stopPending := false }) else (.done, w)
  | .starting => (.done, w)
  | .stopping => (.busy, w)
  | .locked => (.locked, w)
  | _ => (.unavailable, w)

/-! ### Starts (R51 to R53) -/

/-- A grant is taken (R51): STARTING, a stamp, the confirm timer, and the first telegram. -/
def Work.grant (w : Work) (p : PumpId) : Work :=
  let x := w.pumps[p]
  let first :=
    match w.profilePoints x.startProfile with
    | [] => x.maxSpeed
    | pt :: _ => x.commandSpeed pt.speed
  let w := w.commitPump p { x with
    state := .starting
    history := x.history ++ [w.now]
    confirmTimer := w.startPausable p (x.startConfirmLimit * 10)
    resendDone := false
    stopPending := false
    position := some (.point 0) }
  w.issue p (.start first)

/-- The start is fully issued (R51). -/
def State.fullyIssued (s : State) (p : PumpId) : Bool :=
  match s.pumps[p].position with
  | some (.point n) =>
    (s.profilePoints s.pumps[p].startProfile).length ≤ n + 1 && s.pumps[p].awaited.isNone &&
      s.pumps[p].issuePending.isNone
  | _ => false

/-- The confirmation of a STARTING pump, if its two conditions hold (R53). -/
def Work.testConfirm (w : Work) (p : PumpId) : Work :=
  let x := w.pumps[p]
  if x.state == .starting && w.fullyIssued p && x.offered && x.reportsRunning then
    (w.commitPump p { x with
      state := .running
      confirmTimer := .idle
      position := none
      minRunTimer := w.limitTimer x.minRun }).startSettle x.deliveryZone
  else w

/-- The completion of a command telegram (R44). Only the awaited telegram counts, and by the rules of
the profile in progress only the one issued for the position that the profile stands at
(notes/assumptions/7.md): it starts a point's dwell (R51, R56), may confirm the start (R53), or starts
the stop confirm timer (R57). -/
def Work.commandCompleted (w : Work) (p : PumpId) (serial : Nat) : Work :=
  let x := w.pumps[p]
  match x.awaited with
  | none => w
  | some t =>
    if t.serial = serial then
      let y := { x with awaited := none }
      let w := w.setPump p y
      if t.step ≠ x.position then w
      else
        match x.state, x.position with
        | .starting, some (.point n) =>
          let pts := w.profilePoints x.startProfile
          if n + 1 < pts.length then
            match pts[n]? with
            | some pt => w.setPump p { y with dwellTimer := w.startPausable p pt.dwell }
            | none => w
          else w.testConfirm p
        | .stopping, some (.point n) =>
          match (w.profilePoints x.stopProfile)[n]? with
          | some pt => w.setPump p { y with dwellTimer := w.startPausable p pt.dwell }
          | none => w
        | .stopping, some .stop =>
          w.setPump p { y with confirmTimer := w.startPausable p (x.stopConfirmLimit * 10) }
        | _, _ => w
    else w

/-- The expiry of a dwell (R51, R56): the next point, or STOP after the last point of a stop. -/
def Work.dwellExpired (w : Work) (p : PumpId) : Work :=
  let x := { w.pumps[p] with dwellTimer := PausableTimer.idle }
  match x.state, x.position with
  | .starting, some (.point n) =>
    match (w.profilePoints x.startProfile)[n + 1]? with
    | some pt =>
      (w.setPump p { x with position := some (.point (n + 1)) }).issue p
        (.speed (x.commandSpeed pt.speed))
    | none => w.setPump p x
  | .stopping, some (.point n) =>
    match (w.profilePoints x.stopProfile)[n + 1]? with
    | some pt =>
      (w.setPump p { x with position := some (.point (n + 1)) }).issue p
        (.speed (x.commandSpeed pt.speed))
    | none => (w.setPump p { x with position := some .stop }).issue p .stop
  | _, _ => w.setPump p x

/-- An unconfirmed start reaches its limit (R52). -/
def Work.startFailed (w : Work) (p : PumpId) : Work :=
  let x := w.pumps[p]
  let w := w.latch (.pump .failToStart p)
  let y := { x.endProfile with
    lockout := x.lockout.add (.internal .failToStart) .latched
    state := .stopping
    stopPending := false
    position := some .stop }
  (w.commitPump p y).issue p .stop

/-- An unconfirmed stop reaches its limit (R57): the first time STOP is sent again, the second time
the pump is LOCKED. -/
def Work.stopFailed (w : Work) (p : PumpId) : Work :=
  let x := w.pumps[p]
  if x.resendDone then
    let w := w.latch (.pump .failToStop p)
    w.commitResting p { x with
      lockout := x.lockout.add (.internal .failToStop) .latched
      state := .locked
      confirmTimer := .idle
      awaited := x.awaited.map Issued.stale }
  else
    (w.setPump p { x with resendDone := true, confirmTimer := .idle }).issue p .stop

/-! ### Reports (R47 to R50, R53, R58, R59) -/

/-- A trip edge (R49). -/
def Work.tripEdge (w : Work) (p : PumpId) : Work :=
  let w := w.latch (.pump .outstationTrip p)
  let x := w.pumps[p]
  let x := { x with lockout := x.lockout.add (.internal .outstationTrip) .latched }
  match x.state with
  | .locked => w.setPump p x
  | .starting => w.commitResting p { x.endProfile with state := .locked, stopPending := false }
  | .stopping => w.commitResting p { x.endProfile with state := .locked }
  | .running => w.commitResting p { x with state := .locked, stopPending := false }
  | _ => w.commitPump p { x with state := .locked }

/-- A pump is taken into RUNNING because a report shows it running (R47, R48, R67). -/
def Pump.adopted (x : Pump) : Pump := { x with state := .running, minRunTimer := .idle }

/-- A report that does not offer a STARTING, RUNNING or STOPPING pump (R50). -/
def Work.notOffered (w : Work) (p : PumpId) (r : PumpReport) : Work :=
  let x := w.pumps[p]
  match x.state with
  | .stopping =>
    if x.lockout.isEmpty then
      w.commitPump p { x.endProfile with state := .unavailable, stopPending := false }
    else w.commitResting p { x.endProfile with state := .locked, stopPending := false }
  | .starting => w.commitPump p { x.endProfile with state := .unavailable, stopPending := false }
  | .running =>
    if r.running then w.commitPump p { x with state := .unavailable, stopPending := false }
    else
      (w.latch (.pump .uncommandedStop p)).commitResting p
        { x with state := .unavailable, stopPending := false }
  | _ => w

/-- A report that offers a pump that is OFF, QUEUED or UNAVAILABLE (R48). -/
def Work.offeredIdle (w : Work) (p : PumpId) (r : PumpReport) : Work :=
  let x := w.pumps[p]
  if r.running then
    match x.state with
    | .unavailable => w.commitPump p x.adopted
    | _ => (w.latch (.pump .uncommandedRun p)).commitPump p x.adopted
  else
    match x.state with
    | .unavailable => w.commitPump p { x with state := x.orLocked .off }
    | _ => w

/-- A report against the pump's state, trip seen apart. -/
def Work.reportAgainst (w : Work) (p : PumpId) (r : PumpReport) : Work :=
  let x := w.pumps[p]
  if r.tripped && !x.tripSeen then w.tripEdge p
  else
    match x.state with
    | .locked => w
    | .unknown =>
      if !r.offers then w.commitPump p { x with state := x.orLocked .unavailable }
      else if r.running then w.commitPump p { x.adopted with state := x.orLocked .running }
      else w.commitPump p { x with state := x.orLocked .off }
    | .off =>
      if r.offers then w.offeredIdle p r else w.commitPump p { x with state := .unavailable }
    | .queued =>
      if r.offers then w.offeredIdle p r else w.commitPump p { x with state := .unavailable }
    | .unavailable => if r.offers then w.offeredIdle p r else w
    | .starting => if r.offers then w.testConfirm p else w.notOffered p r
    | .running =>
      if !r.offers then w.notOffered p r
      else if r.running then w
      else
        (w.latch (.pump .uncommandedStop p)).commitResting p
          { x with state := x.orLocked .off, stopPending := false }
    | .stopping =>
      if !r.offers then w.notOffered p r
      else if r.running then w
      else
        (w.commitResting p { x.endProfile with
          state := x.orLocked .off, resendDone := x.resendDone }).startSettle x.deliveryZone

/-- The sequencer takes an accepted report (R14, R47): the report is stored, which may move the charge
(R35), it is taken against the state, and trip seen follows it. -/
def Work.takeReport (w : Work) (p : PumpId) (r : PumpReport) : Work :=
  let w := w.commitPump p { w.pumps[p] with report := some r }
  let w := w.reportAgainst p r
  w.setPump p { w.pumps[p] with tripSeen := r.tripped }

/-! ### Lockout and inhibit changes (R41, R66 to R68) -/

/-- STOP is issued at once for a trip (R66). -/
def Work.tripStop (w : Work) (p : PumpId) (x : Pump) : Work :=
  (w.commitPump p { x with
    state := .stopping, stopPending := false, position := some .stop, resendDone := false }).issue
      p .stop

/-- A lockout member is added (R41, R66). -/
def Work.addLockout (w : Work) (p : PumpId) (m : Member) (t : Tag) : Work :=
  let x := w.pumps[p]
  if x.lockout.has m then w
  else
    let y := { x with lockout := x.lockout.add m t }
    match x.state with
    | .queued => w.commitPump p { y with state := .locked }
    | .starting => w.tripStop p y.endProfile
    | .running => w.tripStop p y
    | .stopping =>
      if x.lockout.isEmpty then
        w.tripStop p { y with dwellTimer := .idle, confirmTimer := .idle }
      else w.setPump p y
    | .locked => w.setPump p y
    | .off => w.commitPump p { y with state := .locked }
    | .unknown => w.commitPump p { y with state := .locked }
    | .unavailable => w.commitPump p { y with state := .locked }

/-- The state a pump leaves LOCKED for (R67). -/
def Pump.released (x : Pump) : Pump :=
  if x.offered then if x.reportsRunning then x.adopted else { x with state := .off }
  else { x with state := .unavailable }

/-- A lockout member is removed (R67). -/
def Work.removeLockout (w : Work) (p : PumpId) (m : Member) : Work :=
  let x := w.pumps[p]
  if x.lockout.has m then
    let y := { x with lockout := x.lockout.remove m }
    if y.lockout.isEmpty && x.state == .locked then w.commitPump p y.released
    else w.setPump p y
  else w

/-- An inhibit member is added (R68). -/
def Work.addInhibit (w : Work) (p : PumpId) (e : EntryId) : Work :=
  let x := w.pumps[p]
  w.setPump p { x with inhibit := x.inhibit ||| entryBit e }

/-- An inhibit member is removed; an emptied set is told to the arbiter (R68). -/
def Work.removeInhibit (w : Work) (p : PumpId) (e : EntryId) : Work :=
  let x := w.pumps[p]
  if x.inhibit.getLsbD e.val then
    let rest := x.inhibit &&& ~~~ (entryBit e)
    (w.setPump p { x with inhibit := rest }).pushIf (rest == 0) .evaluate
  else w

/-- The entry's FOLLOW and inhibit members leave a pump (R97). -/
def Work.releaseEntry (w : Work) (e : EntryId) (p : PumpId) : Work :=
  let w := if w.pumps[p].lockout.hasFollow e then w.removeLockout p (.entry e) else w
  w.removeInhibit p e

/-! ### Reachability (R62) -/

/-- The pumps of a house. -/
def pumpsOf (h : HouseId) : List PumpId := allPumps.filter fun p => houseOf p == h

/-- A pump's confirm and dwell timers run again from their remaining time, or are paused (R62). -/
def Work.pausePump (w : Work) (online : Bool) (p : PumpId) : Work :=
  let x := w.pumps[p]
  if online then
    w.setPump p { x with
      confirmTimer := x.confirmTimer.resume w.now, dwellTimer := x.dwellTimer.resume w.now }
  else
    w.setPump p { x with
      confirmTimer := x.confirmTimer.pause w.now, dwellTimer := x.dwellTimer.pause w.now }

/-- The issues pending of a house reached again are placed (R45, R62). -/
def Work.placeHouse (w : Work) (h : HouseId) : Work :=
  match w.housePort h with
  | some port => w.placePending port
  | none => w

/-- A house has left or reached ONLINE (R62). -/
def Work.pauseHouse (w : Work) (h : HouseId) (online : Bool) : Work :=
  let w := (pumpsOf h).foldl (fun w p => w.pausePump online p) w
  if online then w.placeHouse h else w

/-! ### Periodic events (R64, R65) -/

/-- A second of running time (R65). -/
def Pump.tick (x : Pump) : Pump :=
  if x.configured && x.reportsRunning then
    { x with runTime := if x.runTime < 4294967295 then x.runTime + 1 else x.runTime }
  else x

/-- The stamps that stay in a start history at a minute event: those younger than an hour leave the
others at its head (R64). -/
def pruned (now : Count) (l : List Count) : List Count :=
  l.dropWhile fun t => Config.historyAge ≤ elapsed t now

/-- Every start history is pruned; if any stamp leaves one, the arbiter is told (R64). -/
def Work.pruneHistories (w : Work) : Work :=
  allPumps.foldl (fun w p =>
    let x := w.pumps[p]
    let kept := pruned w.now x.history
    (w.setPump p { x with history := kept }).pushIf (kept.length < x.history.length) .evaluate) w

end Sys2Proof.Machine
end

