-- ==== Sys2Proof/Machine/Arbiter.lean ====
section
/-! DEFINITION. The start arbiter (chapter 4): entry and removal (R70 to R76), the derived feeder values (R78), eligibility and the grant evaluation (R79 to R84), and the settle timer's expiry (R86). -/

namespace Sys2Proof.Machine

/-! ### Entry and removal (R70 to R76) -/

/-- A joining entry stands after every entry of equal or higher priority (R70). -/
def insertEntry (e : QueueEntry) : List QueueEntry → List QueueEntry
  | [] => [e]
  | x :: rest => if e.priority ≤ x.priority then x :: insertEntry e rest else e :: x :: rest

/-- An OFF pump joins the queue and becomes QUEUED in one step (R70, R71). -/
def Work.enqueue (w : Work) (p : PumpId) (o : Origin) (priority : Nat) : Work :=
  let e : QueueEntry :=
    { pump := p, origin := o, priority := priority, entered := w.now, bypass := 0 }
  ((w.setQueue (insertEntry e w.queue)).commitPump p { w.pumps[p] with state := .queued }).push .evaluate

/-- A start request as the arbiter takes it (R71, R72). -/
def Work.startRequest (w : Work) (p : PumpId) (o : Origin) (priority : Nat) : Result × Work :=
  match w.pumps[p].state with
  | .off =>
    if w.queue.length < Config.queueCapacity then (.queued, w.enqueue p o priority)
    else (.queueFull, if o = .demand then w.latch (.part .queueFull) else w)
  | .queued => (.duplicate, w)
  | _ => w.startAnswered p

/-- A removal of the arbiter's own: the pump becomes OFF, or LOCKED (R73). -/
def Work.dequeue (w : Work) (p : PumpId) : Work :=
  w.commitPump p { w.pumps[p] with state := w.pumps[p].orLocked .off }

/-- A stop request: the arbiter takes it for a QUEUED pump (R74), else the sequencer (R54). -/
def Work.stopRequest (w : Work) (p : PumpId) : Result × Work :=
  match w.pumps[p].state with
  | .queued => (.stopTaken, w.dequeue p)
  | _ => w.stopTaken p

/-- The wait of the entry has reached the wait limit (R75). -/
def State.waitOver (s : State) (e : QueueEntry) : Bool :=
  s.general.waitLimit * 10 ≤ elapsed e.entered s.now

/-- The end of a wait (R75). -/
def Work.timeOut (w : Work) (p : PumpId) : Work :=
  (w.dequeue p).latch (.pump .queueTimeout p)

/-- Every entry that has waited for the limit now in force leaves, in queue order (R75). -/
def Work.timeOutAll (w : Work) : Work :=
  (w.queue.filter w.waitOver).foldl (fun w e => w.timeOut e.pump) w

/-- The entries that a test picks leave, in queue order (R76). -/
def Work.removeEntries (w : Work) (which : QueueEntry → Bool) : Work :=
  (w.queue.filter which).foldl (fun w e => w.dequeue e.pump) w

/-! ### Derived feeder values (R78) -/

/-- One grant evaluation if a feeder's effective limit stands higher than it did (R78). -/
def Work.ifLimitRose (w : Work) (before : State) : Work :=
  w.pushIf (allFeeders.any fun f => before.effectiveLimit f < w.effectiveLimit f) .evaluate

/-! ### Eligibility (R79) -/

/-- Every condition of R79 but the budget and the order, for the pump of an entry, which is QUEUED
(R70). -/
def State.ready (s : State) (p : PumpId) : Bool :=
  s.pumps[p].state == .queued && s.online (houseOf p) && s.pumps[p].inhibit == 0 && s.pumps[p].minOffTimer.isIdle &&
    decide (s.pumps[p].history.length < s.pumps[p].startsLimit) &&
    s.zones[s.pumps[p].deliveryZone].settleTimer.isIdle && !s.zoneHolds p [.starting]

/-- An earlier entry on the same feeder that failed on budget alone has reached the bypass limit
(R84). -/
def State.blocked (s : State) (failed : List PumpId) (p : PumpId) : Bool :=
  s.queue.any fun e =>
    failed.contains e.pump && s.pumps[e.pump].feeder == s.pumps[p].feeder &&
      decide (s.general.bypassLimit ≤ e.bypass)

/-! ### The grant evaluation (R80 to R83) -/

/-- The bypass counts after a grant (R83). -/
def Work.countBypass (w : Work) (failed : List PumpId) (granted : PumpId) : Work :=
  w.setQueue (w.queue.map fun e =>
    if failed.contains e.pump && w.pumps[e.pump].feeder == w.pumps[granted].feeder then
      { e with bypass := min Config.bypassCeiling (e.bypass + 1) }
    else e)

/-- One entry is tested (R79, R81); the list holds the pumps that failed on budget alone. -/
def Work.testEntry (w : Work) (failed : List PumpId) (p : PumpId) : Work × List PumpId :=
  if w.ready p && !w.blocked failed p then
    if w.fits p then ((w.grant p).countBypass failed p, failed) else (w, failed ++ [p])
  else (w, failed)

/-- The entries from the head, each tested once (R81). -/
def Work.testEntries (w : Work) (failed : List PumpId) : List PumpId → Work
  | [] => w
  | p :: rest =>
    let tested := w.testEntry failed p
    tested.1.testEntries tested.2 rest

/-- One grant evaluation (R80); in CONFIG the queue is empty. -/
def Work.evaluateQueue (w : Work) : Work := w.testEntries [] (w.queue.map QueueEntry.pump)

/-- The expiry of a settle timer, with its two notifications (R86). -/
def Work.settleExpired (w : Work) (z : ZoneId) : Work :=
  ((w.setZone z { w.zones[z] with settleTimer := .idle }).push (.stopTest z)).push .evaluate

end Sys2Proof.Machine
end

