-- ==== Sys2Proof/Machine/Demand.lean ====
section
/-! DEFINITION. The demand unit (chapter 2): the evaluation of a zone on a reading and on a step timer expiry (R21 to R29), reconciliation (R30 to R32), and what mode changes and pump loads do to the call (R33, R34). -/

namespace Sys2Proof.Machine

/-! ### Reconciliation (R30 to R32) -/

/-- A start candidate of a zone (R31). -/
def State.isCandidate (s : State) (p : PumpId) : Bool :=
  s.pumps[p].state == .off && (s.pumps[p].report.any PumpReport.available) &&
    s.online (houseOf p) && s.pumps[p].inhibit == 0

/-- The candidate of least running time, the lowest number among equals (R31). -/
def State.startCandidate (s : State) (z : ZoneId) : Option PumpId :=
  ((s.supplying z).filter s.isCandidate).foldl (fun best p =>
    match best with
    | none => some p
    | some b => if s.pumps[p].runTime < s.pumps[b].runTime then some p else some b) none

/-- Start requests for as many pumps as are missing (R31). -/
def Work.startMissing (w : Work) (z : ZoneId) : Nat → Work
  | 0 => w
  | n + 1 =>
    match w.startCandidate z with
    | none => w
    | some p =>
      match w.startRequest p .demand w.zones[z].demandPriority with
      | (.queued, w) => w.startMissing z n
      | (_, w) => w

/-- The QUEUED supplying pump that stands latest in the queue (R32). -/
def State.latestQueued (s : State) (z : ZoneId) : Option PumpId :=
  ((s.queue.map QueueEntry.pump).filter fun p => (s.supplying z).contains p).getLast?

/-- The RUNNING pump without a stop pending of most running time, the highest number among equals
(R32). -/
def State.mostRun (s : State) (z : ZoneId) : Option PumpId :=
  ((s.supplying z).filter fun p => s.pumps[p].state == .running && !s.pumps[p].stopPending).foldl
    (fun best p =>
      match best with
      | none => some p
      | some b => if s.pumps[b].runTime ≤ s.pumps[p].runTime then some p else some b) none

/-- The surplus is shed one pump at a time (R32). -/
def Work.shedSurplus (w : Work) (z : ZoneId) : Nat → Work
  | 0 => w
  | n + 1 =>
    match w.latestQueued z with
    | some p => (w.stopRequest p).2.shedSurplus z n
    | none =>
      match w.mostRun z with
      | some p => (w.stopRequest p).2.shedSurplus z n
      | none => w

/-- The zone's active pumps are brought to its call (R30). -/
def Work.reconcile (w : Work) (z : ZoneId) : Work :=
  let call := w.zones[z].call
  let active := w.activeCount z
  if active < call then w.startMissing z (call - active) else w.shedSurplus z (active - call)

/-! ### Bound and step (R27, R28) -/

/-- The call is lowered to the available count (R27). -/
def Work.boundCall (w : Work) (z : ZoneId) : Work :=
  w.setZone z { w.zones[z] with call := min w.zones[z].call (w.availableCount z) }

/-- The call takes a new value and the step timer starts (R28, R29). -/
def Work.changeCall (w : Work) (z : ZoneId) (call : Nat) : Work :=
  let zone := w.zones[z]
  w.setZone z { zone with call := call, stepTimer := .running w.now (zone.stepDelay * 10) }

/-- The call is stepped against the effective band (R28). -/
def Work.stepCall (w : Work) (z : ZoneId) (start stop : Nat) : Work :=
  let zone := w.zones[z]
  match zone.stepTimer, zone.forecast with
  | .idle, some f =>
    if f < start ∧ zone.call < w.availableCount z then w.changeCall z (zone.call + 1)
    else if stop < f ∧ 0 < zone.call then w.changeCall z (zone.call - 1)
    else w
  | _, _ => w

/-! ### Evaluations (R21, R26, R29) -/

/-- Stages 4 to 7 (R21, R26). -/
def Work.evaluateZone (w : Work) (z : ZoneId) : Work :=
  let zone := w.zones[z]
  let start := shiftLevel zone.startLevel w.offset
  let stop := shiftLevel zone.stopLevel w.offset
  if stop ≤ start then w.latch (.zone .thresholdCollapse z)
  else if w.authority.mode = .autonomous then
    ((w.boundCall z).stepCall z start stop).reconcile z
  else w

/-- The evaluation on a reading handed over by the tracker (R12, R21): the tracker writes the slope
base as decided. -/
def Work.evaluateReading (w : Work) (z : ZoneId) (level : Nat) (q : Quality) (t : Count) : Work :=
  let zone := w.zones[z]
  let decided := slopeDecision zone level q t
  (w.setZone z { zone with
    slopeBase := decided.1
    trend := decided.2
    forecast := some (forecastOf level decided.2 zone.horizon) }).evaluateZone z

/-- A notification from the sequencer (R30): discarded outside AUTONOMOUS; the bound is applied first
for a LIVE zone. -/
def Work.pumpNotified (w : Work) (z : ZoneId) : Work :=
  if w.authority.mode = .autonomous then
    if w.zones[z].state = .live then (w.boundCall z).reconcile z else w.reconcile z
  else w

/-- The expiry of a step timer (R29). -/
def Work.stepExpired (w : Work) (z : ZoneId) : Work :=
  let w := w.setZone z { w.zones[z] with stepTimer := .idle }
  if w.zones[z].state = .live then w.evaluateZone z else w

/-! ### Mode changes and loads (R33, R34) -/

/-- On entry to AUTONOMOUS (R33). -/
def Work.takeCalls (w : Work) : Work :=
  { w with
    zones := tabulate fun z =>
      if w.zones[z].inUse then
        { w.zones[z] with call := w.activeCount z, stepTimer := .idle }
      else w.zones[z] }

/-- On leaving AUTONOMOUS (R33). -/
def Work.idleSteps (w : Work) : Work :=
  { w with zones := tabulate fun z => { w.zones[z] with stepTimer := .idle } }

/-- A zone whose set of supplying pumps changed (R34). -/
def Work.checkCall (w : Work) (z : ZoneId) : Work :=
  w.setZone z { w.zones[z] with call := min w.zones[z].call (w.supplying z).length }

end Sys2Proof.Machine
end

