-- ==== Sys2Proof/Machine/Interlock.lean ====
section
/-! DEFINITION. The interlock unit (chapter 5): fresh evaluation (R93), causes (R94, R95), their start and end (R96, R97), content loads and enabling (R92, R99 to R101), CLEAR_LOCKOUT (R102), re-derivation (R104, R105) and the input lines (R106 to R108). -/

namespace Sys2Proof.Machine

/-! ### Fresh evaluation and resolution (R93, R96) -/

/-- Whether a cause is present at a fresh evaluation, given the field before it (R93). -/
def State.causeHolds (s : State) (c : Cause) (before : Bool) : Bool :=
  match c with
  | .zoneAtOrBelow z v b =>
    match s.zones[z].level with
    | some l => decide (l ≤ v) || (before && decide (l ≤ v + b))
    | none => false
  | .zoneAtOrAbove z v b =>
    match s.zones[z].level with
    | some l => decide (v ≤ l) || (before && decide (v ≤ l + b))
    | none => false
  | .zoneNotLive z => s.zones[z].state != .live
  | .inputActive n => s.inputs[n].isActive
  | .houseNotOnline h => !s.online h

/-- The field a fresh evaluation gives an entry (R93): absent while it is disabled or empty. -/
def State.freshField (s : State) (x : Interlock) : Bool :=
  match x.content with
  | some c => x.enabled && s.causeHolds c.cause x.present
  | none => false

/-- The pump is covered by the target (the table of R96). -/
def State.covers (s : State) (t : Target) (p : PumpId) : Bool :=
  s.pumps[p].configured &&
    match t with
    | .pump q => p == q
    | .house h => houseOf p == h
    | .feeder f => s.pumps[p].feeder == f
    | .supplyZone z => s.pumps[p].sourceZone == some z
    | .deliveryZone z => s.pumps[p].deliveryZone == z
    | .all => true

/-- The pumps a target resolves to, in ascending number (R96). -/
def State.resolve (s : State) (t : Target) : List PumpId := allPumps.filter (s.covers t)

/-! ### Cause start and cause end (R96, R97) -/

/-- A member of the entry joins the set that its action names (R96). -/
def Work.addMember (w : Work) (e : EntryId) (a : Action) (p : PumpId) : Work :=
  match a with
  | .tripLatch => w.addLockout p (.entry e) .latched
  | .tripFollow => w.addLockout p (.entry e) .follow
  | .inhibit => w.addInhibit p e

/-- The cause present field, written. -/
def Work.setPresent (w : Work) (e : EntryId) (present : Bool) : Work :=
  w.setInterlock e { w.interlocks[e] with present := present }

/-- Members of the entry are added to every pump its target resolves to now (R96). -/
def Work.applyMembers (w : Work) (e : EntryId) (c : InterlockContent) : Work :=
  (w.resolve c.target).foldl (fun w p => w.addMember e c.action p) w

/-- The entry's FOLLOW and inhibit members leave every pump, in ascending number (R97). -/
def Work.releaseAll (w : Work) (e : EntryId) : Work :=
  allPumps.foldl (fun w p => w.releaseEntry e p) w

/-- A cause start (R96). -/
def Work.startCause (w : Work) (e : EntryId) : Work :=
  match w.interlocks[e].content with
  | some c => (w.setPresent e true).applyMembers e c
  | none => w

/-- A cause end (R97). -/
def Work.endCause (w : Work) (e : EntryId) : Work := (w.setPresent e false).releaseAll e

/-- An entry is judged: its cause starts if found present with the field absent, and ends if found
absent with the field present (R94, R95, R107). -/
def Work.judge (w : Work) (e : EntryId) (verdict : Cause → Bool → Option Bool) : Work :=
  let x := w.interlocks[e]
  match x.content with
  | some c =>
    if x.enabled then
      match verdict c.cause x.present, x.present with
      | some true, false => w.startCause e
      | some false, true => w.endCause e
      | _, _ => w
    else w
  | none => w

/-- Every entry is judged, in ascending number (R98). -/
def Work.judgeAll (w : Work) (verdict : Cause → Bool → Option Bool) : Work :=
  allEntries.foldl (fun w e => w.judge e verdict) w

/-- What a notification of a zone says of a cause (R94, R95): present, absent, or nothing. -/
def zoneVerdict (z : ZoneId) (level : Option Nat) (live : Option Bool) (c : Cause)
    (present : Bool) : Option Bool :=
  match c, level with
  | .zoneAtOrBelow z' v b, some l =>
    if z' = z then
      if present then (if v + b < l then some false else none)
      else if l ≤ v then some true else none
    else none
  | .zoneAtOrAbove z' v b, some l =>
    if z' = z then
      if present then (if l + b < v then some false else none)
      else if v ≤ l then some true else none
    else none
  | .zoneNotLive z', _ => if z' = z then live.map not else none
  | _, _ => none

/-- What a change of a house's comm state says of a cause (R95). -/
def houseVerdict (h : HouseId) (online : Bool) (c : Cause) (_ : Bool) : Option Bool :=
  match c with
  | .houseNotOnline h' => if h' = h then some !online else none
  | _ => none

/-- What a change of a line's activity says of a cause (R107). -/
def inputVerdict (l : LineId) (active : Bool) (c : Cause) (_ : Bool) : Option Bool :=
  match c with
  | .inputActive l' => if l' = l then some active else none
  | _ => none

/-! ### Content loads, enabling and disabling (R92, R100, R101) -/

/-- The field is set by a fresh evaluation and a cause found present starts (R92, R100). -/
def Work.evaluateFresh (w : Work) (e : EntryId) : Work :=
  if w.freshField w.interlocks[e] then w.startCause e else w.setPresent e false

/-- An entry is enabled (R100). -/
def Work.enableEntry (w : Work) (e : EntryId) : Work :=
  (w.setInterlock e { w.interlocks[e] with enabled := true, present := false }).evaluateFresh e

/-- An entry is disabled (R101). -/
def Work.disableEntry (w : Work) (e : EntryId) : Work :=
  (w.setInterlock e { w.interlocks[e] with enabled := false, present := false }).releaseAll e

/-- An accepted content load (R91, R92). -/
def Work.loadEntry (w : Work) (e : EntryId) (content : Option InterlockContent) : Work :=
  match w.interlocks[e].enabled, content with
  | true, none =>
    let w := w.disableEntry e
    w.setInterlock e { w.interlocks[e] with content := none }
  | true, some c =>
    let w := w.endCause e
    (w.setInterlock e { w.interlocks[e] with content := some c }).evaluateFresh e
  | false, content => w.setInterlock e { w.interlocks[e] with content := content, present := false }

/-- The ENABLE_INTERLOCK order on an entry of the table (R99). -/
def Work.orderEnable (w : Work) (e : EntryId) (enable : Bool) : Result × Work :=
  if w.interlocks[e].enabled = enable then (.done, w)
  else if enable then
    match w.interlocks[e].content with
    | some _ => (.done, w.enableEntry e)
    | none => (.badConfig, w)
  else (.done, w.disableEntry e)

/-! ### Clearing lockouts (R102) -/

/-- The members a CLEAR_LOCKOUT names, in the order of R102: 0 to 31 an entry, 32 to 34 an internal
cause, 255 all (R176). -/
def membersNamed (member : Byte) : Option (List Member) :=
  let internals : List Member := [.internal .failToStart, .internal .failToStop,
    .internal .outstationTrip]
  if member = 255 then some (allEntries.map .entry ++ internals)
  else
    match objectOf 32 member.toNat with
    | some e => some [.entry e]
    | none => (internals[member.toNat - 32]?).map fun m => [m]

/-- The member's cause is present, so that the member is kept (R102). -/
def State.memberStands (s : State) : Member → Bool
  | .entry e => s.interlocks[e].enabled && s.interlocks[e].present
  | .internal _ => false

/-- Each named member that is held is removed or kept; true if one was kept (R102). -/
def Work.clearMembers (w : Work) (p : PumpId) (kept : Bool) : List Member → Bool × Work
  | [] => (kept, w)
  | m :: rest =>
    if w.pumps[p].lockout.has m then
      if w.memberStands m then w.clearMembers p true rest
      else (w.removeLockout p m).clearMembers p kept rest
    else w.clearMembers p kept rest

/-! ### Re-derivation (R104, R105) -/

/-- The memberships of one entry at a RUN order (R105). -/
def Work.rederiveEntry (w : Work) (e : EntryId) : Work :=
  let field := w.freshField w.interlocks[e]
  let w := w.setPresent e field
  match field, w.interlocks[e].content with
  | true, some c =>
    let covered := w.resolve c.target
    let w := covered.foldl (fun w p => w.addMember e c.action p) w
    (allPumps.filter fun p => !covered.contains p).foldl (fun w p => w.releaseEntry e p) w
  | _, _ => w.releaseAll e

/-- Every membership is re-derived, in ascending entry number (R105). -/
def Work.rederive (w : Work) : Work := allEntries.foldl (fun w e => w.rederiveEntry e) w

/-- The cause present fields after a warm restart, evaluated from absent (R104). -/
def Work.restartFields (w : Work) : Work :=
  { w with
    interlocks := tabulate fun e =>
      let x : Interlock := { w.interlocks[e] with present := false }
      { x with present := w.freshField x } }

/-! ### Input lines (R106 to R108) -/

/-- A change of activity is taken as a start or an end by the entries on the line (R107). -/
def Work.activityChanged (w : Work) (l : LineId) (before : Bool) : Work :=
  let active := w.inputs[l].isActive
  if active = before then w else w.judgeAll (inputVerdict l active)

/-- The line level is accepted (R107). -/
def Work.acceptLine (w : Work) (l : LineId) : Work :=
  let x := w.inputs[l]
  (w.setInput l { x with accepted := some x.lineLevel, filterTimer := none }).activityChanged l
    x.isActive

/-- The filter timer starts, or with a filter time of 0 the level is accepted (R107). -/
def Work.startFilter (w : Work) (l : LineId) : Work :=
  let x := w.inputs[l]
  if x.filterTime = 0 then w.acceptLine l
  else w.setInput l { x with filterTimer := some x.filterTime }

/-- The level of a line changes on the pin (R107). -/
def Work.lineChanged (w : Work) (l : LineId) (level : PinLevel) : Work :=
  let x := w.inputs[l]
  if x.lineLevel = level then w
  else
    let w := w.setInput l { x with lineLevel := level }
    if x.accepted = some level then
      w.setInput l { x with lineLevel := level, filterTimer := none }
    else w.startFilter l

/-- An accepted load of a line (R106): the active level first, then the filter time. -/
def Work.loadInput (w : Work) (l : LineId) (new : InputLine) : Work :=
  let x := w.inputs[l]
  let loaded := w.setInput l new
  let w : Work := if x.accepted.isSome then loaded.activityChanged l x.isActive else loaded
  if new.filterTime ≠ x.filterTime ∧ x.filterTimer.isSome then w.startFilter l else w

/-- A line after a reset (R108). -/
def InputLine.restarted (x : InputLine) : InputLine :=
  { x with accepted := none, filterTimer := some x.filterTime }

end Sys2Proof.Machine
end

