-- ==== Sys2Proof/Machine/Tracker.lean ====
section
/-! DEFINITION. The telemetry tracker (chapter 1): level readings (R5 to R10), staleness (R11), loads of a zone (R2), houses (R16 to R19), and pump report items (R14, R15). -/

namespace Sys2Proof.Machine

/-! ### Counts of turned-away items (R7) -/

/-- The unknown object count is raised. -/
def Work.unknownObject (w : Work) : Work :=
  w.setTracker { w.tracker with unknown := raise w.tracker.unknown }

/-- The reporter mismatch count is raised. -/
def Work.reporterMismatch (w : Work) : Work :=
  w.setTracker { w.tracker with mismatch := raise w.tracker.mismatch }

/-! ### Zone changes (R13) -/

/-- A zone record changes; the interlock unit is told of a change of level or state (R13). -/
def Work.commitZone (w : Work) (z : ZoneId) (new : Zone) : Work :=
  let old := w.zones[z]
  let live : Option Bool :=
    if old.state != .live && new.state == .live then some true
    else if old.state == .live && new.state != .live then some false
    else none
  (w.setZone z new).pushIf (new.level != old.level || new.state != old.state)
    (.zoneChanged z new.level live)

/-- A stale timer started now (R3). -/
def Zone.freshStale (x : Zone) (now : Count) : Timer := .running now (x.staleLimit * 10)

/-- A quality code above 2 is taken as FAILED (R6, R174). -/
def qualityOf (b : Byte) : Quality :=
  if b = 0 then .good else if b = 1 then .suspect else .failed

/-- An accepted GOOD or SUSPECT reading (R6, R9, R12). -/
def Work.acceptLevel (w : Work) (z : ZoneId) (level : Nat) (q : Quality) : Work :=
  let x := w.zones[z]
  let l := min Config.levelLimit level
  (w.commitZone z { x with
    state := .live
    level := some l
    quality := some q
    lastReading := some w.now
    slopeBase := if x.state = .live then x.slopeBase else none
    staleTimer := x.freshStale w.now }).push (.reading z l q w.now)

/-- An accepted FAILED reading (R6, R10). -/
def Work.acceptFailed (w : Work) (z : ZoneId) : Work :=
  let x := w.zones[z]
  let y : Zone := { x with
    quality := some .failed, lastReading := some w.now, staleTimer := x.freshStale w.now }
  if x.state = .failed then w.commitZone z y
  else
    (w.commitZone z { y with state := .failed, slopeBase := none }).latch (.zone .sensorFail z)

/-- One reading (R5, R6). -/
def Work.takeReading (w : Work) (source : Addr) (item : LevelItem) : Work :=
  match objectOf 16 item.zone.toNat with
  | none => w.unknownObject
  | some z =>
    if !w.zones[z].inUse then w.unknownObject
    else if w.zones[z].reporter ≠ some source then w.reporterMismatch
    else
      match qualityOf item.quality with
      | .good => w.acceptLevel z item.level.toNat .good
      | .suspect => w.acceptLevel z item.level.toNat .suspect
      | .failed => w.acceptFailed z

/-- The expiry of a stale timer (R11). -/
def Work.staleExpired (w : Work) (z : ZoneId) : Work :=
  (w.commitZone z { w.zones[z] with
    state := .stale, staleTimer := .idle, slopeBase := none }).latch (.zone .stale z)

/-- A zone's record as UNSET: the tracker's fields (R2, R8) and the demand fields (R20). -/
def Zone.unset (x : Zone) : Zone :=
  { x with
    state := .unset, level := none, quality := none, lastReading := none, slopeBase := none
    staleTimer := .idle, trend := 0, forecast := none, call := 0, stepTimer := .idle }

/-- An accepted load of a zone record (R2). -/
def Work.loadZone (w : Work) (z : ZoneId) (new : Zone) : Work :=
  let old := w.zones[z]
  if new.inUse ≠ old.inUse ∨ new.reporter ≠ old.reporter then w.commitZone z new.unset
  else if new.staleLimit ≠ old.staleLimit then
    let y : Zone := { new with staleTimer := new.staleTimer.retime (new.staleLimit * 10) }
    let w := w.setZone z y
    if y.staleTimer.due w.now then w.staleExpired z else w
  else w.setZone z new

/-! ### Houses (R16 to R19) -/

/-- The comm state a configured house's record and route give it (R18). -/
def State.commOf (s : State) (h : HouseId) : CommState :=
  if s.houses[h].configured then
    match s.housePort h with
    | some port =>
      if (s.port port).state = .up then
        if s.houses[h].silenceTimer.isIdle then .silent else .online
      else .unreachable
    | none => .unreachable
  else .silent

/-- A house's comm state is re-evaluated (R18); a change is told to the interlock unit, the sequencer
and the arbiter; one between SILENT and UNREACHABLE starts and ends no cause (R19, R80, R95). -/
def Work.evaluateHouse (w : Work) (h : HouseId) : Work :=
  let new := w.commOf h
  let old := w.houses[h].comm
  if new = old then w
  else
    let online := new == .online
    (((w.setHouse h { w.houses[h] with comm := new }).pushIf (online != (old == .online))
      (.houseCause h online)).push (.housePause h online)).pushIf online .evaluate

/-- Every house is re-evaluated at a change of state of F1 or F2 (R18). DESIGN CHOICE: R18 and R19 do
not order the houses that one change moves; they are taken in ascending number, and each has its new
comm state before any block takes a notification of one (notes/assumptions/32.md). -/
def Work.evaluateHouses (w : Work) : Work := allHouses.foldl (fun w h => w.evaluateHouse h) w

/-- A telegram restarts its house's silence timer (R17). -/
def Work.houseHeard (w : Work) (source : Addr) : Work :=
  match w.houseAt source with
  | some h =>
    let x := w.houses[h]
    (w.setHouse h { x with
      lastReport := some w.now
      silenceTimer := .running w.now (x.silenceLimit * 10) }).evaluateHouse h
  | none => w

/-- The expiry of a silence timer (R17). -/
def Work.silenceExpired (w : Work) (h : HouseId) : Work :=
  (w.setHouse h { w.houses[h] with silenceTimer := .idle }).evaluateHouse h

/-- A pump's report fields become absent (R15, R16): its charge follows (R35). -/
def Work.forgetReport (w : Work) (p : PumpId) : Work :=
  w.commitPump p { w.pumps[p] with report := none }

/-- An accepted load of a house record (R16 to R18). A load that writes the silence limit, if only with
the value it holds, times the running silence timer anew (R17). -/
def Work.loadHouse (w : Work) (h : HouseId) (writes : Nat → Bool) (new : House) : Work :=
  let old := w.houses[h]
  if new.configured ≠ old.configured ∨ new.address ≠ old.address then
    let w := w.setHouse h { new with lastReport := none, silenceTimer := .idle }
    ((pumpsOf h).foldl (fun w p => w.forgetReport p) w).evaluateHouse h
  else
    let t := new.silenceTimer.retimed (new.silenceLimit * 10) w.now
    (w.setHouse h { new with
      silenceTimer := if writes 3 then t else new.silenceTimer }).evaluateHouse h

/-! ### Pump reports (R14) -/

/-- The report an item carries (R14, R174). -/
def reportOf (item : PumpItem) (now : Count) : PumpReport :=
  { running := item.flags.getLsbD 0
    available := item.flags.getLsbD 1
    tripped := item.flags.getLsbD 2
    speed := min 100 item.speed.toNat
    time := now }

/-- One item of a PUMP_REPORT (R14). -/
def Work.takePumpItem (w : Work) (source : Addr) (item : PumpItem) : Work :=
  match w.houseAt source with
  | none => w.unknownObject
  | some h =>
    match pumpAt h item.index.toNat with
    | none => w.unknownObject
    | some p =>
      if w.pumps[p].configured then w.takeReport p (reportOf item w.now) else w.unknownObject

end Sys2Proof.Machine
end

