-- ==== Sys2Proof/Machine/Plan.lean ====
section
/-! DEFINITION. The clock and plan unit (chapter 6): selection of the window in force (R116, R117), bank loads (R114, R115), the swap (R118, R119), TIME_SET (R112) and the periodic events (R109, R110). -/

namespace Sys2Proof.Machine

/-! ### The window in force (R116, R117) -/

/-- The minute of day (R109). -/
def Clock.minuteOfDay (c : Clock) : Nat := c.timeOfDay / 60

/-- The hour of day (R109). -/
def Clock.hourOfDay (c : Clock) : Nat := c.timeOfDay / 3600

/-- The window a bank in order of start minute gives for a minute: the last that starts at or before
it, or else the last of the bank (R116). -/
def windowAt (bank : List Window) (minute : Nat) : Option Window :=
  match (bank.filter fun x => x.start ≤ minute).getLast? with
  | some x => some x
  | none => bank.getLast?

/-- The selection of R116; `none` is DEFAULT. -/
def State.selected (s : State) : Option Window :=
  if s.clock.timeValid then windowAt s.plan.active s.clock.minuteOfDay else none

/-- The window in force is selected again; the arbiter recomputes the limits (R78, R117). -/
def Work.select (w : Work) : Work :=
  (w.setPlan { w.plan with inForce := w.selected }).ifLimitRose w.toState

/-! ### Loads of the banks (R114, R115) -/

/-- A window takes its place by start minute, or replaces the one that holds it (R114). -/
def insertWindow (x : Window) : List Window → List Window
  | [] => [x]
  | y :: rest =>
    if x.start = y.start then x :: rest
    else if x.start < y.start then x :: y :: rest
    else y :: insertWindow x rest

/-- A window load; a thirteenth window is refused (R114). -/
def loadWindow (x : Window) (bank : List Window) : Option (List Window) :=
  let new := insertWindow x bank
  if new.length ≤ Config.bankWindows then some new else none

/-- An accepted load of the ACTIVE bank, followed by a selection (R114). -/
def Work.loadActive (w : Work) (bank : List Window) : Work :=
  (w.setPlan { w.plan with active := bank }).select

/-- An accepted load of the NEXT bank, with its state (R115). -/
def Work.loadNext (w : Work) (bank : List Window) (st : NextState) : Work :=
  w.setPlan { w.plan with next := bank, nextState := st }

/-! ### The swap (R118, R119) -/

/-- NEXT becomes ACTIVE and the new NEXT is EMPTY (R115, R118). -/
def Plan.swapped (x : Plan) : Plan := { x with active := x.next, next := [], nextState := .empty }

/-- The swap decision of a day event (R118). -/
def Work.swapDecision (w : Work) : Work :=
  if w.plan.nextState = .complete then
    (w.setPlan w.plan.swapped).latch (.part .planSwapped)
  else w.latch (.part .planKept)

/-- The PLAN_MARK order (R119). -/
def Work.planMarked (w : Work) : Result × Work :=
  match w.plan.nextState with
  | .empty => (.badConfig, w)
  | _ => (.done, w.setPlan { w.plan with nextState := .complete })

/-- The PLAN_SWAP order (R119). -/
def Work.planSwapOrdered (w : Work) : Result × Work :=
  if w.plan.nextState = .complete then
    (.done, (w.setPlan w.plan.swapped).select)
  else (.notComplete, w)

/-! ### Setting the time (R112, R113) -/

/-- The time is set; an advance of the time of day not yet taken does not occur (R112, R113). -/
def Work.setTime (w : Work) (seconds : Nat) (day : BitVec 16) : Work :=
  (w.setClock { w.clock with
    timeOfDay := seconds, tenths := 0, dayCount := day, timeValid := true,
    secondsDue := 0 }).select

/-! ### Advances and periodic events (R109 to R111) -/

/-- A tenth of a second: the monotonic count and the tenths figure rise, and from a figure of 9 an
advance of the time of day falls due (R109 to R111; notes/assumptions/5.md). -/
def Clock.tenth (c : Clock) : Clock :=
  if c.tenths < 9 then { c with mono := c.mono + 1, tenths := c.tenths + 1 }
  else { c with mono := c.mono + 1, tenths := 0, secondsDue := c.secondsDue + 1 }

/-- The time of day rises by a second, and the events of its roll-overs fall due (R110). -/
def Clock.second (c : Clock) : Clock :=
  let t := (c.timeOfDay + 1) % Config.secondsPerDay
  { c with
    timeOfDay := t
    secondsDue := c.secondsDue - 1
    minutesDue := c.minutesDue + (if t % 60 = 0 then 1 else 0)
    hoursDue := c.hoursDue + (if t % 3600 = 0 then 1 else 0)
    daysDue := c.daysDue + (if t = 0 then 1 else 0) }

/-- A port in AUTO latch mode moves its live count at a second event (R110, R144). -/
def PortRecord.autoLatch (r : PortRecord) : PortRecord :=
  if r.latchMode = .auto then r.latchCount else r

/-- The second event at the sequencer and the line ports (R65, R110, R144). -/
def Work.secondTaken (w : Work) : Work :=
  { w with
    clock := w.clock.second
    pumps := tabulate fun p => w.pumps[p].tick
    portC := w.portC.autoLatch
    portF1 := w.portF1.autoLatch
    portF2 := w.portF2.autoLatch }

/-- The minute event: histories are pruned (R64), and the window is selected unless the same advance's
day event is still to come, which selects once for both (R110). DESIGN CHOICE: R110 lets either block
act first; here both have acted before a notification of the selection is taken, so no grant
evaluation sees the old histories or the old cap (notes/assumptions/2.md). -/
def Work.minuteTaken (w : Work) : Work :=
  let w := (w.setClock { w.clock with minutesDue := w.clock.minutesDue - 1 }).pruneHistories
  if w.clock.daysDue = 0 then w.select else w

/-- The hour event: it changes only the hour a read returns (R110). -/
def Work.hourTaken (w : Work) : Work :=
  w.setClock { w.clock with hoursDue := w.clock.hoursDue - 1 }

/-- The day event (R110, R118). -/
def Work.dayTaken (w : Work) : Work :=
  (w.setClock { w.clock with
    daysDue := w.clock.daysDue - 1, dayCount := w.clock.dayCount + 1 }).swapDecision.select

end Sys2Proof.Machine
end

