-- ==== Sys2Proof/Machine/Authority.lean ====
section
/-! DEFINITION. Dispatch authority (chapter 7): RUN and its validation (R122, R123), the run mode orders (R126, R127), CONFIG (R128, R129), control presence and fallback (R130, R131), and the warm and cold restarts (R133, R149). -/

namespace Sys2Proof.Machine

/-! ### Control presence and fallback (R130, R131) -/

/-- The mode, written. -/
def Work.setMode (w : Work) (m : Mode) : Work :=
  w.setAuthority { w.authority with mode := m }

/-- The fallback timer is made idle without expiry (R130). -/
def Work.idleFallback (w : Work) : Work :=
  w.setAuthority { w.authority with fallbackTimer := .idle }

/-- The fallback timer is started if R130 calls for it. -/
def Work.tryFallback (w : Work) : Work :=
  if w.authority.mode = .supervised ∧ w.general.fallbackEnabled = true ∧
      w.authority.present = false ∧ w.authority.fallbackTimer = .idle then
    w.setAuthority { w.authority with
      fallbackTimer := .running w.now (w.general.fallbackDelay * 10) }
  else w

/-- Control is present while port C is UP and the silence timer runs (R130). -/
def State.controlPresent (s : State) : Bool :=
  s.portC.state == .up && !s.authority.silenceTimer.isIdle

/-- The control presence is re-evaluated (R130). -/
def Work.evaluateControl (w : Work) : Work :=
  let new := w.controlPresent
  if new = w.authority.present then w
  else
    let w := w.setAuthority { w.authority with present := new }
    if new then w.idleFallback else w.tryFallback

/-- The control silence timer, written, and the presence that follows. -/
def Work.setSilence (w : Work) (t : Timer) : Work :=
  (w.setAuthority { w.authority with silenceTimer := t }).evaluateControl

/-- A control telegram restarts the control silence timer (R130). -/
def Work.controlHeard (w : Work) : Work :=
  w.setSilence (.running w.now (w.general.controlSilenceLimit * 10))

/-- The expiry of the fallback timer (R131). -/
def Work.fallback (w : Work) : Work :=
  ((w.idleFallback.setMode .autonomous).takeCalls).latch (.part .modeFallback)

/-! ### RUN (R122, R123) -/

/-- What RUN validation finds: the table and index of the failing record. -/
inductive Failure
  | zone (index : ZoneId)
  | house (index : HouseId)
  | pump (index : PumpId)
deriving DecidableEq, Repr

/-- A profile named is one that exists (R42, R122). -/
def State.profileExists (s : State) (n : Option ProfileId) : Bool :=
  n.all fun i => !(s.profiles[i]).isEmpty

/-- The five checks of a configured pump (R122). -/
def State.pumpValid (s : State) (p : PumpId) : Bool :=
  !s.pumps[p].configured ||
    (s.houses[houseOf p].configured && s.zones[s.pumps[p].deliveryZone].inUse &&
      (s.pumps[p].sourceZone.all fun z => s.zones[z].inUse) &&
      s.profileExists s.pumps[p].startProfile && s.profileExists s.pumps[p].stopProfile)

/-- The check of a configured house (R122). -/
def State.houseValid (s : State) (h : HouseId) : Bool :=
  !s.houses[h].configured || (s.housePort h).isSome

/-- The two checks of a zone in use (R122). -/
def State.zoneValid (s : State) (z : ZoneId) : Bool :=
  !s.zones[z].inUse ||
    (decide (s.zones[z].startLevel < s.zones[z].stopLevel) &&
      decide ((s.supplying z).length ≤ 8))

/-- The first failing record, pumps before houses before zones (R122). -/
def State.validate (s : State) : Option Failure :=
  match allPumps.find? fun p => !s.pumpValid p with
  | some p => some (.pump p)
  | none =>
    match allHouses.find? fun h => !s.houseValid h with
    | some h => some (.house h)
    | none => (allZones.find? fun z => !s.zoneValid z).map .zone

/-- The demand unit discards what CONFIG has notified it of pumps (R30). -/
def Work.discardPumpNotices (w : Work) : Work :=
  { w with agenda := w.agenda.filter fun r =>
      match r with
      | .reconcile _ => false
      | _ => true }

/-- A RUN order that passed validation (R123): the re-derivation ends in CONFIG, so that the demand unit
discards its notifications (R30) and no pump is started or stopped by the change of mode (R33). -/
def Work.enterRun (w : Work) (target : Mode) : Work :=
  let w := w.rederive.discardPumpNotices.setMode target
  if target = .autonomous then w.takeCalls else w.tryFallback

/-! ### The other orders (R126 to R129) -/

/-- SUPERVISE taken in AUTONOMOUS (R126). -/
def Work.toSupervised (w : Work) : Work :=
  let w := w.setMode .supervised
  ((w.removeEntries fun e => e.origin == .demand).idleSteps).tryFallback

/-- AUTONOMOUS taken in SUPERVISED (R127). -/
def Work.toAutonomous (w : Work) : Work := (w.setMode .autonomous).takeCalls.idleFallback

/-- A configured pump is STARTING or STOPPING (R128). -/
def State.busy (s : State) : Bool :=
  allPumps.any fun p => s.pumps[p].configured &&
    (s.pumps[p].state == .starting || s.pumps[p].state == .stopping)

/-- Every stop pending is cleared (R55, R129). -/
def Work.clearStops (w : Work) : Work :=
  { w with pumps := tabulate fun p => { w.pumps[p] with stopPending := false } }

/-- An accepted CONFIG order (R129). -/
def Work.toConfig (w : Work) : Work :=
  let w := w.setMode .config
  let w := w.removeEntries fun _ => true
  w.clearStops.purgeCommands.idleSteps.idleFallback

/-! ### The warm restart (R133) and the cold reset (R149) -/

/-- A pump after a warm restart (R40). -/
def Pump.restarted (x : Pump) : Pump :=
  let l := x.lockout.latchedOnly
  { x with
    state := if l.isEmpty then .unknown else .locked
    lockout := l
    inhibit := 0
    stopPending := false
    issuePending := none
    awaited := none
    position := none
    confirmTimer := .idle
    dwellTimer := .idle
    resendDone := false
    minRunTimer := .idle
    minOffTimer := .idle
    history := [] }

/-- A warm restart (R133): the steps of its table, the interlock unit after the tracker and the input
lines, since its fresh evaluation reads what the restart leaves (R104). -/
def Work.restart (w : Work) : Work :=
  let w := (w.setMode .config).idleFallback
  let w : Work := { w with
    zones := tabulate fun z =>
      let x := w.zones[z].unset
      { x with settleTimer := .idle }
    houses := tabulate fun h =>
      { w.houses[h] with lastReport := none, silenceTimer := .idle, comm := .silent }
    pumps := tabulate fun p => w.pumps[p].restarted
    queue := []
    inputs := tabulate fun l => w.inputs[l].restarted
    portF1 := { w.portF1 with own := [] }
    portF2 := { w.portF2 with own := [] } }
  let w : Work := { w with
    houses := tabulate fun h => { w.houses[h] with comm := w.commOf h } }
  w.restartFields.select

/-- Straps of 0 give part address 1 and straps of 63 give 62 (R150). -/
def strapAddress (straps : Addr) : Addr :=
  if straps = 0 then 1 else if straps = 63 then 62 else straps

/-- The part after a cold reset with these straps: the reset values, with the pins, the commands
waiting and the choices as they were, which are not the part's to reset (R149; notes/assumptions/4.md).
-/
def State.coldReset (s : State) (straps : Addr) : State :=
  { State.reset with
    inputs := tabulate fun l => { ({} : InputLine) with lineLevel := s.inputs[l].lineLevel }
    switch := { ({} : Switch) with straps := straps, partAddress := strapAddress straps }
    choices := s.choices
    pending := s.pending }

end Sys2Proof.Machine
end

