-- ==== Sys2Proof/Machine/LineCode.lean ====
section
/-! DEFINITION. The line code (R134) and the receiver that reads it (R139): bit intervals, the marks and the byte frame in which a telegram is sent, and what each received interval makes of a receiver in UP. -/

namespace Sys2Proof.Machine

/-! ### Sending (R134) -/

/-- A bit interval (R134): a centre transition, rising for a 1 and falling for a 0; no transition, the
line held at one level; or no centre transition with the level not held. -/
inductive Interval
  | carries (bit : Bool)
  | held (level : PinLevel)
  | broken
deriving DecidableEq, Repr

/-- The interval has a valid centre transition. -/
def Interval.valid : Interval → Bool
  | .carries _ => true
  | .held _ => false
  | .broken => false

/-- A start mark: held low, then held high. -/
def startMark : List Interval := [.held .low, .held .high]

/-- An end mark: held high, then held low. -/
def endMark : List Interval := [.held .high, .held .low]

/-- Idle fill of so many intervals. -/
def idleFill (n : Nat) : List Interval := List.replicate n (.carries true)

/-- The ten intervals of a byte: 0, its bits with the least significant first, 1. -/
def byteCode (b : Byte) : List Interval :=
  .carries false ::
    ((List.range 8).map fun n => Interval.carries (b.getLsbD n)) ++ [.carries true]

/-- A telegram on the line: a start mark, its bytes in order, an end mark. -/
def lineCode (bytes : List Byte) : List Interval := startMark ++ bytes.flatMap byteCode ++ endMark

/-- Telegrams sent one after another, the least idle fill after each end mark (R134, R142). -/
def lineOf (telegrams : List (List Byte)) : List Interval :=
  telegrams.flatMap fun bytes => lineCode bytes ++ idleFill 10

/-! ### What a receiver reads (R134) -/

/-- What intervals say: a bit, a violation that is no part of a mark, or a mark. -/
inductive Sign
  | bit (b : Bool)
  | violation
  | startMark
  | endMark
deriving DecidableEq, Repr

/-- What an interval says after a held interval that may begin a mark, and whether it may itself begin
one: two held intervals of different levels are a mark, and one that no mark takes is a violation. -/
def signsOf (before : Option PinLevel) (i : Interval) : List Sign × Option PinLevel :=
  let alone : List Sign := if before.isSome then [.violation] else []
  match i with
  | .carries b => (alone ++ [.bit b], none)
  | .broken => (alone ++ [.violation], none)
  | .held l =>
    if before = some .low ∧ l = .high then ([.startMark], none)
    else if before = some .high ∧ l = .low then ([.endMark], none)
    else (alone, some l)

/-! ### Assembly (R139) -/

/-- What a port finds in the intervals it receives. -/
inductive Finding
  | acquired
  | lost
  | violation
  | abandoned (cause : AbandonCause)
  | completed (bytes : List Byte)
  | inSync
  | bitError
  | outOfSync
deriving DecidableEq, Repr

/-- The command of the table that brings a finding to the port's own step. -/
def Finding.command (p : Port) : Finding → Instr
  | .acquired => .portUp p
  | .lost => .lossOfCode p
  | .violation => .lineViolation p
  | .abandoned cause => .telegramAbandoned p cause
  | .completed bytes => .receiveCompletion p bytes
  | .inSync => .checkerInSync p
  | .bitError => .patternBitError p
  | .outOfSync => .checkerReturnToHunting p

/-- The byte of eight bits, the least significant first (R134). -/
def byteOfBits (bits : List Bool) : Byte :=
  BitVec.ofNat 8 (bits.foldr (fun b n => b.toNat + 2 * n) 0)

/-- Where the receiver stands once a telegram is abandoned: a start mark begins a new telegram, the
others leave the intervals up to the next start mark uncounted (R139). -/
def afterAbandoned : AbandonCause → ReceiverPhase
  | .startMark => .assembling [] []
  | .violation => .skipping
  | .misplacedEndMark => .skipping
  | .excessLength => .skipping

/-- A telegram is abandoned. -/
def abandoning (cause : AbandonCause) : ReceiverPhase × List Finding :=
  (afterAbandoned cause, [.abandoned cause])

/-- A bit during assembly (R134, R139): a 63rd byte is too long, whatever the bit that begins it
(notes/assumptions/28.md); the first bit of a byte is 0 and the tenth 1, or the frame is at fault. -/
def assembleBit (bytes : List Byte) (bits : List Bool) (b : Bool) : ReceiverPhase × List Finding :=
  if bits.length = 0 then
    if Config.telegramBytes ≤ bytes.length then abandoning .excessLength
    else if b then abandoning .violation
    else (.assembling bytes [b], [])
  else if bits.length < 9 then (.assembling bytes (bits ++ [b]), [])
  else if b then (.assembling (bytes ++ [byteOfBits bits.tail]) [], [])
  else abandoning .violation

/-- What a sign makes of the receiver's phase in UP, and what it finds (R139). -/
def ReceiverPhase.take : ReceiverPhase → Sign → ReceiverPhase × List Finding
  | .hunting, .startMark => (.assembling [] [], [])
  | .hunting, .violation => (.hunting, [.violation])
  | .hunting, .endMark => (.hunting, [])
  | .hunting, .bit _ => (.hunting, [])
  | .skipping, .startMark => (.assembling [] [], [])
  | .skipping, .violation => (.skipping, [])
  | .skipping, .endMark => (.skipping, [])
  | .skipping, .bit _ => (.skipping, [])
  | .assembling _ _, .startMark => abandoning .startMark
  | .assembling _ _, .violation => abandoning .violation
  | .assembling bytes bits, .endMark =>
    if bits.length = 0 then (.hunting, [.completed bytes]) else abandoning .misplacedEndMark
  | .assembling bytes bits, .bit b => assembleBit bytes bits b

/-- Signs taken in order. -/
def ReceiverPhase.takeAll (x : ReceiverPhase) : List Sign → ReceiverPhase × List Finding
  | [] => (x, [])
  | sign :: rest =>
    let first := x.take sign
    let others := first.1.takeAll rest
    (others.1, first.2 ++ others.2)

/-- A receiver in UP takes an interval (R134, R139). -/
def Receiver.take (x : Receiver) (i : Interval) : Receiver × List Finding :=
  let read := signsOf x.held i
  let taken := x.phase.takeAll read.1
  ({ phase := taken.1, held := read.2 }, taken.2)

/-- A receiver in UP takes intervals in order. -/
def Receiver.takeAll (x : Receiver) : List Interval → Receiver × List Finding
  | [] => (x, [])
  | i :: rest =>
    let first := x.take i
    let others := first.1.takeAll rest
    (others.1, first.2 ++ others.2)

end Sys2Proof.Machine
end

