-- ==== Sys2Proof/Machine/Pattern.lean ====
section
/-! DEFINITION. The test pattern (R145 to R147): the generator and the bits a port in TEST sends, the checker's own prediction, alignments and window (R146), and what an interval received in each state of a port makes of it (R136, R137, R139, R146). -/

namespace Sys2Proof.Machine

/-! ### The generator (R146, R147) -/

/-- The new bit of a PRBS register (R146): stage n is bit n - 1. -/
def prbsNext : Pattern → BitVec 15 → Bool
  | .prbs9, r => r.getLsbD 4 != r.getLsbD 8
  | .prbs15, r => r.getLsbD 13 != r.getLsbD 14
  | .user, _ => false

/-- A shift register takes a new bit into its first stage. -/
def shiftIn (r : BitVec 15) (b : Bool) : BitVec 15 := (r <<< 1) ||| (BitVec.ofBool b).setWidth 15

/-- A bit of the user pattern: the most significant is at place 0 (R146). -/
def TestSettings.userBit (t : TestSettings) (place : Nat) : Bool := t.user.getLsbD (23 - place % 24)

/-- The next bit of the pattern, before inversion. DESIGN CHOICE: the bit of a PRBS sequence is the
register's new bit, not the bit that its last stage gives up (notes/assumptions/19.md); R146 gives the
rule of the new bit and does not say which of the two is sent. -/
def Generator.bit (g : Generator) (t : TestSettings) : Bool :=
  match t.pattern with
  | .user => t.userBit g.place
  | p => prbsNext p g.register

/-- The bit the transmitter sends next in TEST (R146, R147). -/
def Generator.sent (g : Generator) (t : TestSettings) : Bool :=
  ((g.bit t) != t.invert) != g.invertNext

/-- The generator after a bit is sent. -/
def Generator.advance (g : Generator) (t : TestSettings) : Generator :=
  { register := shiftIn g.register (g.bit t)
    place := (g.place + 1) % 24
    invertNext := false }

/-- The bit a port in TEST sends in an interval, and the port after it; a port in another state sends
no pattern. -/
def PortRecord.sendBit (r : PortRecord) : Option (Bool × PortRecord) :=
  match r.state, r.test with
  | .test, some t => some (r.generator.sent t, { r with generator := r.generator.advance t })
  | _, _ => none

/-! ### The checker's bits (R146) -/

/-- The stages of the pattern's register. -/
def Pattern.stages : Pattern → Nat
  | .prbs9 => 9
  | .prbs15 => 15
  | .user => 0

/-- The checker expects this bit next, before inversion. -/
def Checker.expected (c : Checker) (t : TestSettings) : Bool :=
  match t.pattern with
  | .user => t.userBit c.place
  | p => prbsNext p c.register

/-- A bit while hunting a PRBS pattern (R146): loaded until the register is full, then predicted; a
wrong prediction loads the register afresh, from the next bit on (notes/assumptions/29.md). -/
def Checker.huntPrbs (c : Checker) (p : Pattern) (b : Bool) : Checker × List Finding :=
  if c.loaded < p.stages then
    ({ c with register := shiftIn c.register b, loaded := c.loaded + 1, predicted := 0 }, [])
  else if b = prbsNext p c.register then
    ({ c with register := shiftIn c.register b, predicted := c.predicted + 1 },
      if c.predicted + 1 = Config.syncPredictions then [.inSync] else [])
  else ({ c with loaded := 0, predicted := 0 }, [])

/-- The bits each alignment of the user pattern has matched once a bit is taken. -/
def Checker.matchedAfter (c : Checker) (t : TestSettings) (b : Bool) : Vector Nat 24 :=
  Vector.ofFn fun (a : Fin 24) =>
    if b = t.userBit (c.place + a.val) then c.matched[a] + 1 else 0

/-- A bit while hunting the user pattern (R146): every alignment is tried, and the place goes on by
the first that has matched enough. -/
def Checker.huntUser (c : Checker) (t : TestSettings) (b : Bool) : Checker × List Finding :=
  let m := c.matchedAfter t b
  match (List.finRange 24).find? fun a => Config.syncMatches ≤ m[a] with
  | some a => ({ c with matched := m, place := (c.place + a.val + 1) % 24 }, [.inSync])
  | none => ({ c with matched := m, place := (c.place + 1) % 24 }, [])

/-- The last bits checked once one more is. -/
def Checker.checkedAfter (c : Checker) (wrong : Bool) : List Bool :=
  (wrong :: c.checked).take Config.syncWindow

/-- A bit in sync (R146): the register runs on with the expected bit, so that one bit in error is one
error (R147); the checker falls out of sync with enough errors among the last bits checked. -/
def Checker.check (c : Checker) (t : TestSettings) (b : Bool) : Checker × List Finding :=
  let wrong := b != c.expected t
  let checked := c.checkedAfter wrong
  ({ c with
      register := shiftIn c.register (c.expected t)
      place := (c.place + 1) % 24
      checked := checked },
    (if wrong then [.bitError] else []) ++
      if Config.syncErrors ≤ checked.count true then [.outOfSync] else [])

/-- A received bit at the checker, its inversion taken back (R146). Its moves between hunting and sync
are the commands of what it finds. -/
def Checker.take (c : Checker) (t : TestSettings) (received : Bool) : Checker × List Finding :=
  let b := received != t.invert
  match c.state with
  | .inSync => c.check t b
  | .hunting =>
    match t.pattern with
    | .user => c.huntUser t b
    | p => c.huntPrbs p b

/-! ### The checker's moves (R146) -/

/-- The checker comes into sync (R146): nothing is checked yet and no error flagged. -/
def PortRecord.checkerSync (r : PortRecord) : PortRecord :=
  if r.state = .test ∧ r.checker.state = .hunting then
    { r with checker := { r.checker with state := .inSync, checked := [] }, errorFlagged := false }
  else r

/-- The checker leaves sync (R146) and hunts from its beginning. -/
def PortRecord.checkerHunt (r : PortRecord) : PortRecord :=
  if r.state = .test then { r with checker := {} } else r

/-! ### Intervals received by a port (R136, R137, R139, R146) -/

/-- The receiver in another phase. -/
def PortRecord.inPhase (r : PortRecord) (x : ReceiverPhase) : PortRecord :=
  { r with receiver := { r.receiver with phase := x } }

/-- A port receives an interval: DOWN counts it toward acquisition (R136); UP and TEST count on from the
last valid transition, whatever is found on the way, and a loss of code is found once, as the count
reaches the loss count (R137). The interval goes to the receiver in UP (R139) and to the checker in TEST
(R146). What is found comes to the port as commands of the table; no command of the table is an interval
(notes/assumptions/6.md). DESIGN CHOICE: R137 does not order a loss and what else the same interval is
found to be; what the receiver finds, and a violation in TEST, comes before the loss
(notes/assumptions/33.md). -/
def PortRecord.takeInterval (r : PortRecord) (i : Interval) : PortRecord × List Finding :=
  let n := if i.valid then 0 else r.intervals + 1
  let loss : List Finding := if !i.valid && n = r.lossCount then [.lost] else []
  match r.state with
  | .down =>
    let n := if i.valid then r.intervals + 1 else 0
    ({ r with intervals := n }, if i.valid && n = r.lossCount then [.acquired] else [])
  | .up =>
    let x := r.receiver.take i
    ({ r with intervals := n, receiver := x.1 }, x.2 ++ loss)
  | .test =>
    match i, r.test with
    | .carries b, some t =>
      let x := r.checker.take t b
      ({ r with intervals := n, checker := x.1 }, x.2)
    | .carries _, none => ({ r with intervals := n }, [])
    | _, _ => ({ r with intervals := n }, .violation :: loss)

end Sys2Proof.Machine
end

