-- ==== Sys2Proof/Machine/Ports.lean ====
section
/-! DEFINITION. The line ports (chapter 8): changes of state (R136, R137), the flush (R138), transmission (R142), test state (R145 to R147), reset (R148), and the load of a parameter record (R135). -/

namespace Sys2Proof.Machine

/-! ### Changes of state (R136) -/

/-- The count of intervals as a port enters a state: from UP to TEST it goes on, since both count from
the last valid transition (R137); else it begins anew (R136, R137). That TEST counts from its entry
where it is entered from DOWN is a DESIGN CHOICE (notes/assumptions/6.md). -/
def PortRecord.intervalsIn (r : PortRecord) (st : PortState) : Nat :=
  if r.state = .up ∧ st = .test then r.intervals else 0

/-- A port is in a new state: its count of intervals goes on or begins anew, a telegram being received
is discarded uncounted (R138), and once UP the receiver begins at the next start mark (R136). Its
neighbours are told (R136): the tracker for F1 and F2, the responder for C, which then tries a pending
alert if C is UP (R170). -/
def Work.setPortState (w : Work) (p : Port) (st : PortState) : Work :=
  let w := w.setPort p { w.port p with
    state := st, intervals := (w.port p).intervalsIn st, receiver := {} }
  match p with
  | .c =>
    let w := w.evaluateControl
    if st = .up then w.offerAlert else w
  | .f1 => w.evaluateHouses
  | .f2 => w.evaluateHouses

/-! ### The flush (R138) -/

/-- A number of DROPPED events is counted (R143). -/
def Work.countDropped (w : Work) (p : Port) : Nat → Work
  | 0 => w
  | n + 1 => (w.countError p .dropped).countDropped p n

/-- What becomes of a telegram of the part that a flush removes (R138); an effect that waited for a
reply falls due (R162). -/
def Work.flushOwn (w : Work) (p : Port) (t : OwnTelegram) : Work × List DeferredAction :=
  match t.kind with
  | .command pump serial => (w.discarded pump serial, [])
  | .reply deferred => (w.countError p .dropped, deferred.toList)
  | .alert =>
    (w.setEvents { w.events with alertOutstanding := false, alertPending := true }, [])

/-- The telegrams of the part that a flush removes, in order. -/
def Work.flushOwns (w : Work) (p : Port) : List OwnTelegram → Work × List DeferredAction
  | [] => (w, [])
  | t :: rest =>
    let first := w.flushOwn p t
    let others := first.1.flushOwns p rest
    (others.1, first.2 ++ others.2)

/-- The transmit side is flushed (R138), beginning with the telegram in transmission; the effects on
port C that its dropped replies held back are returned. -/
def Work.flush (w : Work) (p : Port) : Work × List DeferredAction :=
  let r := w.port p
  let w := w.setPort p { r with sending := none, own := [], pass := [] }
  match r.sending with
  | some (.own t) => (w.countDropped p r.pass.length).flushOwns p (t :: r.own)
  | some (.pass _) => (w.countDropped p (r.pass.length + 1)).flushOwns p r.own
  | none => (w.countDropped p r.pass.length).flushOwns p r.own

/-! ### DOWN, TEST and reset (R135, R145, R148) -/

/-- A port leaves its state for DOWN with the flush, LOSS not latched (R135, R145). -/
def Work.goDown (w : Work) (p : Port) : Work × List DeferredAction :=
  let w := w.setPort p { w.port p with testTimer := .idle }
  let x := w.flush p
  (x.1.setPortState p .down, x.2)

/-- The test timer of a setting; a duration of 0 starts none (R145). -/
def TestSettings.timer (t : TestSettings) (now : Count) : Timer :=
  if t.duration = 0 then .idle else .running now (t.duration * 10)

/-- A test setting begins: the generator its pattern, the checker its hunt (R145, R146). -/
def PortRecord.beginTest (r : PortRecord) (t : TestSettings) (now : Count) : PortRecord :=
  { r with
    test := some t
    generator := {}
    checker := {}
    errorFlagged := false
    testTimer := t.timer now }

/-- TEST is entered with the flush, or in TEST the settings are replaced (R145); an entry clears a
held insertion (R147). -/
def Work.enterTest (w : Work) (p : Port) (t : TestSettings) : Work × List DeferredAction :=
  if (w.port p).state = .test then
    (w.setPort p ((w.port p).beginTest t w.now), [])
  else
    let x := w.flush p
    let w := x.1
    let w := w.setPort p { (w.port p).beginTest t w.now with insertHeld := false }
    (w.setPortState p .test, x.2)

/-- A port reset (R148). -/
def Work.resetPort (w : Work) (p : Port) : Work × List DeferredAction :=
  let x := w.flush p
  let w := x.1
  let w := w.setPort p { w.port p with
    testTimer := .idle, insertHeld := false, live := 0, holding := 0 }
  (w.setPortState p .down, x.2)

/-- An effect on port C that waited for its order's reply (R162). -/
def Work.applyDeferred (w : Work) : DeferredAction → Work × List DeferredAction
  | .rateChange => w.goDown .c
  | .enterTest t => w.enterTest .c t
  | .reset => w.resetPort .c

/-- Effects fallen due, each in turn. A flush leaves no reply, so the effects that one entry can make
fall due are the replies a port can hold: the fuel is never spent. DESIGN CHOICE: where a flush drops
several such replies, their effects are made in the order of the dropped replies
(notes/assumptions/30.md). -/
def Work.runDeferred : Nat → Work → List DeferredAction → Work
  | 0, w, _ => w
  | _ + 1, w, [] => w
  | n + 1, w, a :: rest =>
    let x := w.applyDeferred a
    runDeferred n x.1 (rest ++ x.2)

/-- A change of a port, with the effects its flush makes fall due. DESIGN CHOICE: R162 places such an
effect at the drop of its reply, and R138 and R148 make the flush one step with the change of state; the
model makes the effect right after that change (notes/assumptions/30.md). So a PORT_RESET of port C
whose flush drops the reply to a PORT_MODE TEST leaves the port in TEST. -/
def Work.settleFlush (x : Work × List DeferredAction) : Work := x.1.runDeferred 16 x.2

/-! ### Line events (R136, R137) -/

/-- The loss count is reached without a valid transition (R137); in TEST the count goes on. -/
def Work.lossOfCode (w : Work) (p : Port) : Work :=
  match (w.port p).state with
  | .up => (Work.settleFlush (w.goDown p)).latch (.port .loss p)
  | .test =>
    (w.setPort p { w.port p with checker := {} }).latch (.port .loss p)
  | .down => w

/-- An accepted load of a parameter record (R135); a loss count lowered to or below the count reached
makes a DOWN port UP (R136), and is a loss of code in UP and in TEST (R137). -/
def Work.loadPort (w : Work) (p : Port) (new : PortRecord) : Work × Option DeferredAction :=
  let old := w.port p
  let y : PortRecord := if new.counterClass = old.counterClass then new else { new with live := 0 }
  let w := w.setPort p y
  let w : Work :=
    if new.lossCount < old.lossCount ∧ new.lossCount ≤ old.intervals then
      if old.state = .down then w.setPortState p .up else w.lossOfCode p
    else w
  if new.rate = old.rate then (w, none)
  else if p = .c then (w, some .rateChange)
  else (Work.settleFlush (w.goDown p), none)

/-- The PORT_MODE order with TEST (R145); on port C an entry waits for the reply. -/
def Work.orderTest (w : Work) (p : Port) (t : TestSettings) : Work × Option DeferredAction :=
  if p = .c ∧ (w.port p).state ≠ .test then (w, some (.enterTest t))
  else (Work.settleFlush (w.enterTest p t), none)

/-- The PORT_MODE order with NORMAL (R145). -/
def Work.orderNormal (w : Work) (p : Port) : Work :=
  if (w.port p).state = .test then Work.settleFlush (w.goDown p) else w

/-- The PORT_RESET order (R148); on port C the reset waits for the reply. -/
def Work.orderReset (w : Work) (p : Port) : Work × Option DeferredAction :=
  if p = .c then (w, some .reset) else (Work.settleFlush (w.resetPort p), none)

/-- The INSERT_ERROR order (R147). -/
def PortRecord.insertError (r : PortRecord) : PortRecord :=
  if r.state = .test then { r with generator := { r.generator with invertNext := true } }
  else { r with insertHeld := true }

/-! ### Transmission (R142) -/

/-- The telegram as it is sent: a held insertion inverts a bit of its check word (R147). -/
def OwnTelegram.withError (t : OwnTelegram) (insert : Bool) : OwnTelegram :=
  if insert then { t with bytes := invertCheck t.bytes } else t

/-- A free transmitter takes the next telegram (R142), and the block concerned is told that a queue of
the part has given one up: the sequencer (R45) or the responder (R170). -/
def Work.transmitTake (w : Work) (p : Port) : Work :=
  let r := w.port p
  match r.state, r.sending, r.own, r.pass with
  | .up, none, t :: rest, _ =>
    let w := w.setPort p { r with
      own := rest, sending := some (.own (t.withError r.insertHeld)), insertHeld := false }
    match p with
    | .c => w.offerAlert
    | .f1 => w.placePending .f1
    | .f2 => w.placePending .f2
  | .up, none, [], t :: rest => w.setPort p { r with pass := rest, sending := some (.pass t) }
  | _, _, _, _ => w

/-- The outstanding alert has completed: the holdoff timer starts (R170). -/
def Work.alertCompleted (w : Work) : Work :=
  w.setEvents { w.events with
    alertOutstanding := false, holdoff := .running w.now (w.general.alertHoldoff * 10) }

/-- A transmission is complete (R142). -/
def Work.transmissionComplete (w : Work) (p : Port) : Work :=
  let r := w.port p
  match r.sending with
  | none => w
  | some (.pass _) => w.setPort p { r with sending := none }
  | some (.own t) =>
    let w := w.setPort p { r with sending := none }
    match t.kind with
    | .command pump serial => w.commandCompleted pump serial
    | .reply deferred => w.runDeferred 16 deferred.toList
    | .alert => w.alertCompleted

/-! ### Received intervals and the checker (R139, R146) -/

/-- A violation received (R136, R139, R146): DOWN sets its count of acquisition back, TEST counts
every one, and in UP the receiver's phase decides whether it is counted. -/
def Work.violation (w : Work) (p : Port) : Work :=
  match (w.port p).state with
  | .down => w.setPort p { w.port p with intervals := 0 }
  | .test => w.countError p .codeViolation
  | .up =>
    match (w.port p).receiver.phase with
    | .hunting => w.countError p .codeViolation
    | .assembling _ _ => (w.setPort p ((w.port p).inPhase .skipping)).countError p .codeViolation
    | .skipping => w

/-- How an abandoned telegram is counted (R139). -/
def abandonError : AbandonCause → LineError
  | .violation => .codeViolation
  | .startMark => .length
  | .misplacedEndMark => .length
  | .excessLength => .length

/-- A telegram under assembly is abandoned (R139); telegrams are assembled in UP only. -/
def Work.abandon (w : Work) (p : Port) (cause : AbandonCause) : Work :=
  if (w.port p).state = .up then
    (w.setPort p ((w.port p).inPhase (afterAbandoned cause))).countError p (abandonError cause)
  else w

/-- A bit error in sync: counted, and flagged once in each period in sync (R146). -/
def Work.patternError (w : Work) (p : Port) : Work :=
  if (w.port p).state = .test ∧ (w.port p).checker.state = .inSync then
    let first := !(w.port p).errorFlagged
    let w := w.countError p .pattern
    let w := w.setPort p { w.port p with errorFlagged := true }
    if first then w.latch (.port .testErrors p) else w
  else w

end Sys2Proof.Machine
end

