-- ==== Sys2Proof/Machine/Agenda.lean ====
section
/-! DEFINITION. How a step settles: each notification is taken by its block, and what that causes in turn, until none is left. -/

namespace Sys2Proof.Machine

/-- A notification is taken by its block. -/
def Work.react (w : Work) : Reaction → Work
  | .reading z level q t => w.evaluateReading z level q t
  | .zoneChanged z level live => w.judgeAll (zoneVerdict z level live)
  | .houseCause h online => w.judgeAll (houseVerdict h online)
  | .housePause h online => w.pauseHouse h online
  | .reconcile z => w.pumpNotified z
  | .evaluate => w.evaluateQueue
  | .stopTest z => w.testStops z

/-- Notifications are taken one at a time, within a bound. -/
def Work.drain : Nat → Work → Work
  | 0, w => w
  | n + 1, w =>
    match w.next with
    | none => w
    | some (r, rest) => drain n (rest.react r)

/-- Every notification of the step is taken (notes/assumptions/2.md, notes/assumptions/15.md). -/
def Work.settle (w : Work) : Work := w.drain Config.settleBound

/-- A step: an operation of the blocks, and what follows from it. -/
def run (f : Work → Work) (s : State) : State := (f (Work.of s)).settle.toState

end Sys2Proof.Machine
end

