-- ==== Sys2Proof/Machine/Reads.lean ====
section
/-! DEFINITION. What a PART_READ returns (R165, R177): the contents of each table in their order, and how they are cut into replies. The encodings that R177 leaves open are in notes/assumptions/12.md. -/

namespace Sys2Proof.Machine

/-! ### Places of a record read (R177) -/

/-- A place of a record read. -/
abbrev Place := BitVec 32

/-- An absent value, an idle timer or an expired timer. -/
def absent : Place := 0xFFFFFFFF#32

/-- NONE of a named list or of an object field (R176). -/
def placeNone : Place := 255#32

def placeNat (n : Nat) : Place := BitVec.ofNat 32 n

def placeInt (n : Int) : Place := BitVec.ofInt 32 n

def placeBool (b : Bool) : Place := if b then 1 else 0

def placeOpt {α : Type} (f : α → Place) : Option α → Place
  | some x => f x
  | none => absent

/-- An object, or NONE. -/
def placeObject {n : Nat} : Option (Fin n) → Place
  | some x => placeNat x.val
  | none => placeNone

/-- A station address, or NONE. -/
def placeAddress : Option Addr → Place
  | some a => a.setWidth 32
  | none => placeNone

/-- The remaining time of a timer in whole seconds, rounded up. -/
def placeSeconds (t : Timer) (now : Count) : Place :=
  match t.remaining now with
  | some d => placeNat ((d + 9) / 10)
  | none => absent

/-- The remaining time of a timer in tenths. -/
def placeTenths (t : Timer) (now : Count) : Place :=
  placeOpt placeNat (t.remaining now)

/-- The remaining time of a pausable timer in tenths; paused, with the most significant bit set. -/
def placePausable (t : PausableTimer) (now : Count) : Place :=
  match t with
  | .idle => absent
  | .running start d => placeNat (d - elapsed start now)
  | .paused d => placeNat d ||| 0x80000000#32

/-- HIGH and LOW by their position (R106). -/
def placeLevel : PinLevel → Place
  | .high => 0
  | .low => 1

/-- An accepted level: HIGH, LOW or NONE. -/
def placeAccepted : Option PinLevel → Place
  | some l => placeLevel l
  | none => placeNone

def placeZoneState : ZoneState → Place
  | .unset => 0
  | .live => 1
  | .stale => 2
  | .failed => 3

def placeQuality : Quality → Place
  | .good => 0
  | .suspect => 1
  | .failed => 2

def placeComm : CommState → Place
  | .online => 0
  | .silent => 1
  | .unreachable => 2

def placePumpState : PumpState → Place
  | .unknown => 0
  | .off => 1
  | .queued => 2
  | .starting => 3
  | .running => 4
  | .stopping => 5
  | .locked => 6
  | .unavailable => 7

/-- A telegram pending or awaited: command code × 256 + speed, 0 for none. -/
def placeCommand : Option PumpCommand → Place
  | none => 0
  | some (.start v) => placeNat (256 + v)
  | some .stop => placeNat 512
  | some (.speed v) => placeNat (768 + v)

def placePosition : Option Position → Place
  | none => absent
  | some (.point n) => placeNat n
  | some .stop => 12

def placeMode : Mode → Place
  | .config => 0
  | .supervised => 1
  | .autonomous => 2

/-- A line rate by its position in the list of R135. DESIGN CHOICE: R135 lists numbers, not names
(notes/assumptions/31.md). -/
def placeRate : LineRate → Place
  | .r9600 => 0
  | .r19200 => 1
  | .r38400 => 2
  | .r76800 => 3

/-- A loss count by its position in the list of R135. DESIGN CHOICE: R135 lists numbers, not names
(notes/assumptions/31.md). -/
def placeLossCount (n : Nat) : Place :=
  if n = 32 then 0 else if n = 64 then 1 else if n = 128 then 2 else 3

def placeClass : CounterClass → Place
  | .codeViolation => 0
  | .checkFail => 1
  | .length => 2
  | .dropped => 3
  | .allErrors => 4
  | .pattern => 5

def placeLatch : LatchMode → Place
  | .auto => 0
  | .manual => 1

def placePortState : PortState → Place
  | .down => 0
  | .up => 1
  | .test => 2

def placePattern : Pattern → Place
  | .prbs9 => 0
  | .prbs15 => 1
  | .user => 2

def placeChecker (c : Checker) : Place :=
  match c.state with
  | .hunting => 0
  | .inSync => 1

/-! ### Contents of records (R177) -/

/-- ZONE: R1, R3, R20 and the settle timer of R85. -/
def Zone.places (z : Zone) (now : Count) : List Place :=
  [placeBool z.inUse, placeAddress z.reporter, placeNat z.startLevel, placeNat z.stopLevel,
   placeNat z.staleLimit, placeNat z.smoothing, placeNat z.horizon, placeNat z.stepDelay,
   placeNat z.settleTime, placeNat z.demandPriority,
   placeZoneState z.state, placeOpt placeNat z.level, placeOpt placeQuality z.quality,
   placeOpt id z.lastReading, placeOpt (fun b => placeNat b.level) z.slopeBase,
   placeOpt (fun b => b.time) z.slopeBase,
   placeInt z.trend, placeOpt placeNat z.forecast, placeNat z.call, placeSeconds z.stepTimer now,
   placeSeconds z.settleTimer now]

/-- HOUSE: R16, R18 and R17. -/
def House.places (h : House) (now : Count) : List Place :=
  [placeBool h.configured, placeAddress h.address, placeNat h.silenceLimit,
   placeComm h.comm, placeOpt id h.lastReport, placeSeconds h.silenceTimer now]

/-- The internal causes of a lockout set as bits. -/
def Lockout.internals (l : Lockout) : Place :=
  (BitVec.ofBool l.outstationTrip ++ BitVec.ofBool l.failToStop ++
    BitVec.ofBool l.failToStart).setWidth 32

/-- PUMP: R38, R40 and the report fields of R15. -/
def Pump.places (x : Pump) (now : Count) : List Place :=
  [placeBool x.configured, placeObject x.sourceZone, placeNat x.deliveryZone.val,
   placeNat x.feeder.val, placeNat x.ratedLoad, placeNat x.inrush, placeObject x.startProfile,
   placeObject x.stopProfile, placeNat x.speedTrim, placeNat x.minSpeed, placeNat x.maxSpeed,
   placeNat x.minRun, placeNat x.minOff, placeNat x.startsLimit, placeNat x.startConfirmLimit,
   placeNat x.stopConfirmLimit,
   placePumpState x.state, x.lockout.entries, x.lockout.latched, x.lockout.internals,
   x.inhibit, placeBool x.stopPending, placeCommand x.issuePending,
   placeCommand (x.awaited.map Issued.command), placePosition x.position,
   placePausable x.confirmTimer now, placePausable x.dwellTimer now, placeBool x.resendDone,
   placeTenths x.minRunTimer now, placeTenths x.minOffTimer now, placeBool x.tripSeen,
   placeNat x.history.length, placeOpt id x.history.head?, placeNat x.runTime,
   placeOpt (fun r => placeBool r.running) x.report,
   placeOpt (fun r => placeBool r.available) x.report,
   placeOpt (fun r => placeBool r.tripped) x.report,
   placeOpt (fun r => placeNat r.speed) x.report, placeOpt (fun r => r.time) x.report]

/-- PROFILE: the point count, then speed and dwell of each point. -/
def profilePlaces (l : List ProfilePoint) : List Place :=
  placeNat l.length :: l.flatMap fun pt => [placeNat pt.speed, placeNat pt.dwell]

/-- FEEDER: R77. -/
def State.feederPlaces (s : State) (f : FeederId) : List Place :=
  [placeNat s.feeders[f].limit, placeNat (s.effectiveLimit f), placeNat (s.committed f),
   placeNat ((allPumps.filter fun p => s.pumps[p].configured && s.pumps[p].feeder == f &&
     s.pumps[p].state == .starting).length)]

/-- Cause kind, cause object, level and band; 0 where unused (R176). -/
def Cause.places : Cause → List Place
  | .zoneAtOrBelow z v b => [1, placeNat z.val, placeNat v, placeNat b]
  | .zoneAtOrAbove z v b => [2, placeNat z.val, placeNat v, placeNat b]
  | .zoneNotLive z => [3, placeNat z.val, 0, 0]
  | .inputActive l => [4, placeNat l.val, 0, 0]
  | .houseNotOnline h => [5, placeNat h.val, 0, 0]

/-- Target kind and object (R176). -/
def Target.places : Target → List Place
  | .pump p => [0, placeNat p.val]
  | .house h => [1, placeNat h.val]
  | .feeder f => [2, placeNat f.val]
  | .supplyZone z => [3, placeNat z.val]
  | .deliveryZone z => [4, placeNat z.val]
  | .all => [5, 0]

def Action.place : Action → Place
  | .tripLatch => 0
  | .tripFollow => 1
  | .inhibit => 2

/-- INTERLOCK: the enabled field, the seven parameters, and the cause present field. DESIGN CHOICE:
present is 1 and absent 0 (notes/assumptions/12.md); R177 gives them no code. -/
def Interlock.places (x : Interlock) : List Place :=
  placeBool x.enabled ::
    (match x.content with
      | some c => c.cause.places ++ c.target.places ++ [c.action.place]
      | none => [0, 0, 0, 0, 0, 0, 0]) ++ [placeBool x.present]

/-- INPUT: R106, the line level, the accepted level and whether the line is active. -/
def InputLine.places (x : InputLine) : List Place :=
  [placeLevel x.activeLevel, placeNat x.filterTime, placeLevel x.lineLevel,
   placeAccepted x.accepted, placeBool x.isActive]

/-- PORT: R135, and the further contents it lists for a read. DESIGN CHOICE: of the two transmit
queues, which R135 and R177 do not order, the part's own comes first, then the pass queue
(notes/assumptions/12.md). -/
def PortRecord.places (r : PortRecord) (now : Count) : List Place :=
  [placeRate r.rate, placeLossCount r.lossCount, placeClass r.counterClass, placeLatch r.latchMode,
   placePortState r.state, placeNat r.live, placeNat r.holding, placeNat r.own.length,
   placeNat r.pass.length, placeBool r.insertHeld] ++
    (match r.state, r.test with
      | .test, some t =>
        [placePattern t.pattern, t.user.setWidth 32, placeBool t.invert, placeNat t.duration,
         placeChecker r.checker, placeSeconds r.testTimer now]
      | _, _ => [])

/-- GENERAL: R164. -/
def General.places (g : General) : List Place :=
  [placeNat g.waitLimit, placeNat g.bypassLimit, placeBool g.fallbackEnabled,
   placeNat g.controlSilenceLimit, placeNat g.fallbackDelay, placeNat g.alertHoldoff,
   g.enableSet.setWidth 32]

/-- SWITCH: R150 and R161. -/
def Switch.places (x : Switch) : List Place :=
  [x.partAddress.setWidth 32, x.controlAddress.setWidth 32, placeNat x.rejected,
   placeNat x.misdirected, placeNat x.unrouted]

/-- CLOCK: R109, the minute and hour of day, and the window in force (R117). -/
def State.clockPlaces (s : State) : List Place :=
  [placeNat s.clock.timeOfDay, s.clock.dayCount.setWidth 32, placeBool s.clock.timeValid,
   s.clock.mono, placeNat s.clock.minuteOfDay, placeNat s.clock.hourOfDay] ++
    (match s.plan.inForce with
      | none => [absent, absent, absent]
      | some x => [placeNat x.start, placeInt x.offset, placeNat x.cap])

/-- MODE: R121. DESIGN CHOICE: a control station present is 1 and absent 0 (notes/assumptions/12.md);
R177 gives them no code. -/
def State.modePlaces (s : State) : List Place :=
  [placeMode s.authority.mode, placeBool s.general.fallbackEnabled,
   placeNat s.general.controlSilenceLimit, placeNat s.general.fallbackDelay,
   placeBool s.authority.present, placeSeconds s.authority.silenceTimer s.now,
   placeSeconds s.authority.fallbackTimer s.now]

/-! ### Elements and replies (R165, R177) -/

/-- What a read of one table and index has to return: the bytes before the elements, the elements, and
how many fit a reply. -/
structure Reading where
  lead : List Byte := []
  elements : List (List Byte)
  perReply : Nat := 10
deriving DecidableEq, Repr

/-- Field entries over the places of a record, coded from 1 (R177). -/
def fieldElements (code : Nat) : List Place → List (List Byte)
  | [] => []
  | v :: rest => (byte code :: be32 v) :: fieldElements (code + 1) rest

/-- A record read. -/
def ofPlaces (l : List Place) : Reading := { elements := fieldElements 1 l }

/-- One entry of a QUEUE read; the wait is in whole seconds, rounded down (R70). -/
def QueueEntry.bytes (e : QueueEntry) (now : Count) : List Byte :=
  [byte e.pump.val, if e.origin = .control then 0 else 1, byte e.priority, byte e.bypass] ++
    be16Nat (elapsed e.entered now / 10)

/-- One element of an EVENTS read (R167). DESIGN CHOICE: the flag kind has the code 1 to 16 that R177
gives it in an alert and R176 in CLEAR_FLAGS (notes/assumptions/12.md); no line codes it for EVENTS. -/
def LatchedFlag.bytes (x : LatchedFlag) (g : General) : List Byte :=
  [byte (x.flag.kindIndex + 1), x.flag.object] ++ be32 x.count ++
    [if g.enables x.flag then 1 else 0]

/-- One window as in R176. -/
def Window.bytes (x : Window) : List Byte :=
  be16Nat x.start ++ be16 (BitVec.ofInt 16 x.offset) ++ [byte x.cap]

/-- One entry of a ROUTE read. -/
def routeByte : Option FieldPort → Byte
  | none => 0
  | some .f1 => 1
  | some .f2 => 2

/-- The NEXT state that a bank read carries. -/
def NextState.byte : NextState → Byte
  | .empty => 0
  | .loading => 1
  | .complete => 2

/-- A bank read. -/
def State.bankReading (s : State) (bank : List Window) : Reading :=
  { lead := [s.plan.nextState.byte], elements := bank.map Window.bytes }

/-- A record of a table, or BAD_INDEX (R163). -/
def indexed {n : Nat} (index : Byte) (f : Fin n → Reading) : Except Result Reading :=
  match objectOf n index.toNat with
  | some i => .ok (f i)
  | none => .error .badIndex

/-- A table without an index: any other index than 0 is BAD_INDEX (R176). -/
def unindexed (index : Byte) (r : Reading) : Except Result Reading :=
  if index = 0 then .ok r else .error .badIndex

/-- The contents a read names: steps 1 and 2 of R163, then the contents of R177. -/
def State.reading (s : State) (table index : Byte) : Except Result Reading :=
  match table.toNat with
  | 1 => indexed index fun (z : ZoneId) => ofPlaces (s.zones[z].places s.now)
  | 2 => indexed index fun (h : HouseId) => ofPlaces (s.houses[h].places s.now)
  | 3 => indexed index fun (p : PumpId) => ofPlaces (s.pumps[p].places s.now)
  | 4 => indexed index fun (p : PumpId) => ofPlaces [placeNat s.pumps[p].runTime]
  | 5 => indexed index fun (i : ProfileId) => ofPlaces (profilePlaces s.profiles[i])
  | 6 => indexed index fun (f : FeederId) => ofPlaces (s.feederPlaces f)
  | 7 => indexed index fun (e : EntryId) => ofPlaces s.interlocks[e].places
  | 8 => indexed index fun (l : LineId) => ofPlaces s.inputs[l].places
  | 9 => unindexed index (s.bankReading s.plan.active)
  | 10 => unindexed index (s.bankReading s.plan.next)
  | 11 => indexed index fun (_ : Fin 64) =>
      { elements := s.switch.route.toList.map fun x => [routeByte x], perReply := 51 }
  | 12 => unindexed index (ofPlaces s.switch.places)
  | 13 =>
    match portOf index with
    | some p => .ok (ofPlaces ((s.port p).places s.now))
    | none => .error .badIndex
  | 14 => unindexed index (ofPlaces s.general.places)
  | 15 => unindexed index
      { elements := s.queue.map fun e => e.bytes s.now, perReply := 8 }
  | 16 => unindexed index (ofPlaces s.clockPlaces)
  | 17 => unindexed index (ofPlaces s.modePlaces)
  | 18 => unindexed index
      { lead := be16 s.general.enableSet
        elements := s.events.latched.map fun x => x.bytes s.general
        perReply := 7 }
  | 19 => unindexed index
      (ofPlaces [placeNat s.tracker.mismatch, placeNat s.tracker.unknown])
  | _ => .error .badTable

/-- The part of a reply that carries a reading from a start position: count, MORE, the bytes before
the elements, and the elements (R165, R177). -/
def Reading.contents (r : Reading) (position : Nat) : List Byte :=
  let left := r.elements.drop position
  let carried := left.take r.perReply
  [byte carried.length, if r.perReply < left.length then 1 else 0] ++ r.lead ++ carried.flatten

end Sys2Proof.Machine
end

