-- ==== Sys2Proof/Machine/Loads.lean ====
section
/-! DEFINITION. The loads of the fourteen tables (R163): the checks in their order, and the effect of each on the block that owns the table. A body that does not parse is given as none. -/

namespace Sys2Proof.Machine

/-! ### The checks (R163, R176) -/

/-- Steps 3 and 4 for a table of field entries: the layout, the mode, the ranges and the consistency of
the record as the load leaves it. None is an accepted body without entries, which changes nothing
(R176; notes/assumptions/11.md for the place of the layout check). -/
def checkFields {α : Type} (record : α) (nFields : Nat) (mayLoad : Nat → Bool)
    (set : α → Nat → BitVec 32 → Option α) (consistent : α → Bool)
    (fields : Option (List FieldEntry)) : Except Result (Option α) :=
  match fields with
  | none => .error .badValue
  | some [] => .ok none
  | some l =>
    if !layoutOk nFields l then .error .badValue
    else if !l.all (fun e => mayLoad e.code.toNat) then .error .refusedMode
    else
      match writeFields set record l with
      | none => .error .badValue
      | some r => if consistent r then .ok (some r) else .error .badValue

/-- The load writes the field of a code, be it with the value that the field holds. -/
def writesField (fields : Option (List FieldEntry)) (code : Nat) : Bool :=
  (fields.getD []).any fun e => e.code.toNat == code

/-- A load as its checks decide it. -/
def Work.loadChecked {α : Type} (w : Work) (checked : Except Result (Option α))
    (apply : α → Result × Work) : Result × Work :=
  match checked with
  | .error r => (r, w)
  | .ok none => (.done, w)
  | .ok (some x) => apply x

/-- The mode is CONFIG. -/
def State.inConfig (s : State) : Bool := s.authority.mode == .config

/-! ### ZONE, HOUSE (R1, R2, R16) -/

/-- PART_LOAD of a zone (R1, R2): fields 1 and 2 in CONFIG, the tuning fields in every mode. -/
def Work.loadZoneTable (w : Work) (index : Byte) (fields : Option (List FieldEntry)) :
    Result × Work :=
  match objectOf 16 index.toNat with
  | none => (.badIndex, w)
  | some z =>
    w.loadChecked
      (checkFields w.zones[z] 10 (fun c => 3 ≤ c || w.inConfig) Zone.setField
        (fun r => r.startLevel < r.stopLevel) fields)
      fun r => (.done, w.loadZone z r)

/-- The consistency of a house record (R16). -/
def State.houseConsistent (s : State) (h : HouseId) (r : House) : Bool :=
  !r.configured ||
    (r.address.isSome && r.address != some s.switch.partAddress &&
      !allHouses.any fun k => k != h && s.houses[k].configured && s.houses[k].address == r.address)

/-- PART_LOAD of a house (R16): the silence limit in every mode, the others in CONFIG. -/
def Work.loadHouseTable (w : Work) (index : Byte) (fields : Option (List FieldEntry)) :
    Result × Work :=
  match objectOf 12 index.toNat with
  | none => (.badIndex, w)
  | some h =>
    w.loadChecked
      (checkFields w.houses[h] 3 (fun c => c = 3 || w.inConfig) House.setField
        (w.houseConsistent h) fields)
      fun r => (.done, w.loadHouse h (writesField fields) r)

/-! ### PUMP, RUN_TIME, PROFILE (R34, R38, R39, R42) -/

/-- A pump as a cold reset leaves its dynamic fields, except its running time (R39, R40), and with its
report fields absent (R15). -/
def Pump.cleared (x : Pump) : Pump :=
  { x with
    state := .unknown
    lockout := {}
    inhibit := 0
    stopPending := false
    issuePending := none
    awaited := none
    position := none
    confirmTimer := .idle
    dwellTimer := .idle
    resendDone := false
    minRunTimer := .idle
    minOffTimer := .idle
    tripSeen := false
    history := []
    report := none }

/-- The state of the pump refuses a load that unconfigures it (R39). DESIGN CHOICE: a STOPPING pump
with a lockout member meets both refusals, which R39 and R163 do not order, and BUSY is answered
(notes/assumptions/11.md). -/
def Pump.unconfigureRefusal (x : Pump) : Option Result :=
  match x.state with
  | .starting => some .busy
  | .stopping => some .busy
  | _ => if x.lockout.isEmpty then none else some .locked

/-- An accepted load of a pump record (R34, R39). -/
def Work.loadPump (w : Work) (p : PumpId) (new : Pump) : Work :=
  let old := w.pumps[p]
  let y : Pump :=
    if new.configured ≠ old.configured then new.cleared
    else { new with history := new.history.drop (new.history.length - new.startsLimit) }
  let w := w.commitPump p y
  if new.configured ≠ old.configured ∨ new.deliveryZone ≠ old.deliveryZone then
    (w.checkCall old.deliveryZone).checkCall new.deliveryZone
  else w

/-- PART_LOAD of a pump (R38, R39): in CONFIG. -/
def Work.loadPumpTable (w : Work) (index : Byte) (fields : Option (List FieldEntry)) :
    Result × Work :=
  match objectOf 48 index.toNat with
  | none => (.badIndex, w)
  | some p =>
    w.loadChecked
      (checkFields w.pumps[p] 16 (fun _ => w.inConfig) Pump.setField
        (fun r => r.minSpeed ≤ r.maxSpeed) fields)
      fun r =>
        if w.pumps[p].configured && !r.configured then
          match w.pumps[p].unconfigureRefusal with
          | some refusal => (refusal, w)
          | none => (.done, w.loadPump p r)
        else (.done, w.loadPump p r)

/-- PART_LOAD of a running time (R39): in every mode, BUSY while the pump is RUNNING. -/
def Work.loadRunTimeTable (w : Work) (index : Byte) (fields : Option (List FieldEntry)) :
    Result × Work :=
  match objectOf 48 index.toNat with
  | none => (.badIndex, w)
  | some p =>
    w.loadChecked
      (checkFields w.pumps[p] 1 (fun _ => true) Pump.setRunTime (fun _ => true) fields)
      fun r => if w.pumps[p].state = .running then (.busy, w) else (.done, w.setPump p r)

/-- PART_LOAD of a profile (R42): in CONFIG. -/
def Work.loadProfileTable (w : Work) (index : Byte) (points : Option (List PointBody)) :
    Result × Work :=
  match objectOf 8 index.toNat with
  | none => (.badIndex, w)
  | some i =>
    match points with
    | none => (.badValue, w)
    | some l =>
      if !w.inConfig then (.refusedMode, w)
      else
        match profileOf l with
        | none => (.badValue, w)
        | some pts => (.done, { w with profiles := w.profiles.set i pts })

/-! ### FEEDER, INTERLOCK, INPUT (R77, R91, R92, R106) -/

/-- An accepted load of a feeder's limit (R77, R78). -/
def Work.loadFeeder (w : Work) (f : FeederId) (r : Feeder) : Work :=
  let before := w.toState
  (w.setFeeder f r).ifLimitRose before

/-- PART_LOAD of a feeder (R77): in every mode. -/
def Work.loadFeederTable (w : Work) (index : Byte) (fields : Option (List FieldEntry)) :
    Result × Work :=
  match objectOf 4 index.toNat with
  | none => (.badIndex, w)
  | some f =>
    w.loadChecked (checkFields w.feeders[f] 1 (fun _ => true) Feeder.setField (fun _ => true) fields)
      fun r => (.done, w.loadFeeder f r)

/-- PART_LOAD of an interlock entry (R91, R92): in CONFIG. -/
def Work.loadInterlockTable (w : Work) (index : Byte) (body : Option InterlockBody) :
    Result × Work :=
  match objectOf 32 index.toNat with
  | none => (.badIndex, w)
  | some e =>
    match body with
    | none => (.badValue, w)
    | some b =>
      if !w.inConfig then (.refusedMode, w)
      else
        match interlockContent b with
        | none => (.badValue, w)
        | some c => (.done, w.loadEntry e c)

/-- PART_LOAD of an input line (R106): in CONFIG. -/
def Work.loadInputTable (w : Work) (index : Byte) (fields : Option (List FieldEntry)) :
    Result × Work :=
  match objectOf 4 index.toNat with
  | none => (.badIndex, w)
  | some l =>
    w.loadChecked
      (checkFields w.inputs[l] 2 (fun _ => w.inConfig) InputLine.setField (fun _ => true) fields)
      fun r => (.done, w.loadInput l r)

/-! ### PLAN_ACTIVE, PLAN_NEXT (R114, R115) -/

/-- PART_LOAD of the ACTIVE bank (R114): in CONFIG. -/
def Work.loadActiveTable (w : Work) (index : Byte) (body : Option (Option WindowBody)) :
    Result × Work :=
  if index ≠ 0 then (.badIndex, w)
  else
    match body with
    | none => (.badValue, w)
    | some b =>
      if !w.inConfig then (.refusedMode, w)
      else
        match b with
        | none => (.done, w.loadActive [])
        | some b =>
          match windowOf b with
          | none => (.badValue, w)
          | some x =>
            match loadWindow x w.plan.active with
            | none => (.badIndex, w)
            | some bank => (.done, w.loadActive bank)

/-- PART_LOAD of the NEXT bank (R114, R115): in every mode. -/
def Work.loadNextTable (w : Work) (index : Byte) (body : Option (Option WindowBody)) :
    Result × Work :=
  if index ≠ 0 then (.badIndex, w)
  else
    match body with
    | none => (.badValue, w)
    | some none => (.done, w.loadNext [] .empty)
    | some (some b) =>
      match windowOf b with
      | none => (.badValue, w)
      | some x =>
        match loadWindow x w.plan.next with
        | none => (.badIndex, w)
        | some bank => (.done, w.loadNext bank .loading)

/-! ### ROUTE, SWITCH (R150, R151) -/

/-- An accepted load of a route entry; a change is told to the tracker (R151, R18). -/
def Work.loadRoute (w : Work) (i : Fin 64) (r : Option FieldPort) : Work :=
  let changed := r != w.switch.route[i]
  let w := w.setSwitch { w.switch with route := w.switch.route.set i r }
  if changed then
    (allHouses.filter fun h =>
      w.houses[h].configured && w.houses[h].address == some (BitVec.ofFin i)).foldl
        (fun w h => w.evaluateHouse h) w
  else w

/-- PART_LOAD of a route entry (R151): in CONFIG. -/
def Work.loadRouteTable (w : Work) (index : Byte) (fields : Option (List FieldEntry)) :
    Result × Work :=
  match objectOf 64 index.toNat with
  | none => (.badIndex, w)
  | some i =>
    w.loadChecked
      (checkFields w.switch.route[i] 1 (fun _ => w.inConfig) setRouteField
        (fun r => r.isNone || (i.val != 63 && i.val != w.switch.partAddress.toNat)) fields)
      fun r => (.done, w.loadRoute i r)

/-- PART_LOAD of the control station address (R150): in CONFIG. -/
def Work.loadSwitchTable (w : Work) (index : Byte) (fields : Option (List FieldEntry)) :
    Result × Work :=
  if index ≠ 0 then (.badIndex, w)
  else
    w.loadChecked
      (checkFields w.switch.controlAddress 1 (fun _ => w.inConfig) setControlField
        (fun a => a != w.switch.partAddress) fields)
      fun a => (.done, w.setSwitch { w.switch with controlAddress := a })

/-! ### PORT, GENERAL (R135, R164) -/

/-- PART_LOAD of a port (R135): in every mode; a change of port C's rate waits for the reply. -/
def Work.loadPortTable (w : Work) (index : Byte) (fields : Option (List FieldEntry)) :
    (Result × Option DeferredAction) × Work :=
  match portOf index with
  | none => ((.badIndex, none), w)
  | some p =>
    match checkFields (w.port p) 4 (fun _ => true) PortRecord.setField (fun _ => true) fields with
    | .error r => ((r, none), w)
    | .ok none => ((.done, none), w)
    | .ok (some r) =>
      let x := w.loadPort p r
      ((.done, x.2), x.1)

/-- The kinds a load of the enable set enables, one of which has a latched flag (R164, R169). -/
def State.enablesLatched (s : State) (before after : BitVec 16) : Bool :=
  s.events.latched.any fun x =>
    !before.getLsbD x.flag.kindIndex && after.getLsbD x.flag.kindIndex

/-- An accepted load of the general parameters, each field with its effect: the wait limit (R75), the
bypass limit (R84), the fallback (R130), the control silence limit (R130), the enable set (R169). A load
that writes the wait limit or the control silence limit acts on what waits or runs, be it with the value
that the field holds (R75, R130); the others act where their value changes. -/
def Work.loadGeneral (w : Work) (writes : Nat → Bool) (new : General) : Work :=
  let old := w.general
  let w := w.setGeneral new
  let w : Work := if writes 1 then w.timeOutAll else w
  let w := w.pushIf (decide (old.bypassLimit < new.bypassLimit)) .evaluate
  let w : Work := if !new.fallbackEnabled then w.idleFallback else w
  let w : Work :=
    if writes 4 then
      w.setSilence (w.authority.silenceTimer.retimed (new.controlSilenceLimit * 10) w.now)
    else w
  let w : Work := if new.fallbackEnabled && !old.fallbackEnabled then w.tryFallback else w
  if w.enablesLatched old.enableSet new.enableSet then w.trigger else w

/-- PART_LOAD of the general parameters (R164): in every mode. -/
def Work.loadGeneralTable (w : Work) (index : Byte) (fields : Option (List FieldEntry)) :
    Result × Work :=
  if index ≠ 0 then (.badIndex, w)
  else
    w.loadChecked (checkFields w.general 7 (fun _ => true) General.setField (fun _ => true) fields)
      fun r => (.done, w.loadGeneral (writesField fields) r)

end Sys2Proof.Machine
end

