-- ==== Sys2Proof/Machine/Responder.lean ====
section
/-! DEFINITION. The management responder (chapters 7 and 10): the mode gate (R124), the orders (R166) with the clearing of flags (R168), and how a request is taken and answered (R162). -/

namespace Sys2Proof.Machine

/-! ### The mode gate (R124, R157) -/

/-- The command of an intercepted item (R175). -/
inductive Request
  | start (priority : Byte)
  | stop
  | speed (percent : Byte)
deriving DecidableEq, Repr

/-- A request for a pump through the mode gate (R124); a priority above 3 is clamped (R71). -/
def Work.gate (w : Work) (p : PumpId) (r : Request) : Result × Work :=
  match w.authority.mode, r with
  | .config, _ => (.notRunningMode, w)
  | .supervised, .start priority => w.startRequest p .control (min 3 priority.toNat)
  | .autonomous, .start _ => (.notSupervised, w)
  | _, .stop => w.stopRequest p
  | _, .speed percent => w.speedRequest p percent.toNat

/-- The command of an item, by its code (R175). -/
def SetItem.request (i : SetItem) : Option Request :=
  match i.command.toNat with
  | 1 => some (.start i.priority)
  | 2 => some .stop
  | 3 => some (.speed i.speed)
  | _ => none

/-- The configured pump of a house at an item's local index. -/
def State.pumpNamed (s : State) (h : HouseId) (index : Byte) : Option PumpId :=
  match pumpAt h index.toNat with
  | some p => if s.pumps[p].configured then some p else none
  | none => none

/-- One item of an intercepted PUMP_SET (R124, R157). -/
def Work.takeItem (w : Work) (h : HouseId) (i : SetItem) : Result × Work :=
  match w.pumpNamed h i.index with
  | none => (.badIndex, w)
  | some p =>
    match i.request with
    | none => (.badValue, w)
    | some r => w.gate p r

/-- The items in telegram order, each whole before the next (R157, notes/assumptions/9.md); what the
last causes is taken before the reply, as for any request. -/
def Work.takeItems (w : Work) (h : HouseId) : List SetItem → List Result × Work
  | [] => ([], w)
  | [i] =>
    let only := w.takeItem h i
    ([only.1], only.2)
  | i :: rest =>
    let first := w.takeItem h i
    let others := first.2.settle.takeItems h rest
    (first.1 :: others.1, others.2)

/-! ### Answers (R162, R177) -/

/-- What a request is answered with: its results, the bytes that follow them, and an effect on port C
that waits for the reply. -/
structure Answer where
  results : List Result
  extra : List Byte := []
  deferred : Option DeferredAction := none
deriving DecidableEq, Repr

/-- One result and no more. -/
def Answer.of (r : Result) : Answer := { results := [r] }

/-- An operation answered with one result. -/
def answered (x : Result × Work) : Answer × Work := (Answer.of x.1, x.2)

/-- The items of a PART_REPLY (R177). -/
def Answer.items (a : Answer) (kind : Byte) : List Byte :=
  [kind, byte a.results.length] ++ a.results.map Result.code ++ a.extra

/-- The PART_REPLY that carries an answer (R162, R177). -/
def replyTelegram (source destination : Addr) (kind : Byte) (a : Answer) : OwnTelegram :=
  { kind := .reply a.deferred
    bytes := Telegram.bytes
      { destination := destination, source := source, kind := kindPartReply,
        items := a.items kind } }

/-- A PART_REPLY is offered to port C's reply queue; dropped, it is counted, and an effect that waited
for it falls due (R141, R162). -/
def Work.reply (w : Work) (destination : Addr) (kind : Byte) (a : Answer) : Work :=
  if w.portC.takesOwn then
    w.placeOwn .c (replyTelegram w.switch.partAddress destination kind a)
  else (w.countError .c .dropped).runDeferred 16 a.deferred.toList

/-- A request is taken: its effects in every block, then its reply to the station that sent it, then an
alert that its effects triggered (R162, R170). -/
def Work.manage (w : Work) (kind : Byte) (f : Work → Answer × Work) : Work :=
  let source := w.switch.controlAddress
  let taken := f (w.setReplying true)
  let w := taken.2.settle.reply source kind taken.1
  let owed := w.offerOwed
  let w := (w.setReplying false).setOwed false
  if owed then w.offerAlert else w

/-! ### TIME_SET and reads (R112, R165) -/

/-- An event taken so many times, each to its end. -/
def Work.eventsTaken (event : Work → Work) : Nat → Work → Work
  | 0, w => w
  | n + 1, w => eventsTaken event n (event w).settle

/-- The periodic events of an advance that has been taken occur for the old time, the minute event, the
hour event and the day event that are still to come (R113). -/
def Work.finishAdvance (w : Work) : Work :=
  let w := Work.eventsTaken Work.minuteTaken w.clock.minutesDue w
  let w := Work.eventsTaken Work.hourTaken w.clock.hoursDue w
  Work.eventsTaken Work.dayTaken w.clock.daysDue w

/-- TIME_SET (R112), after the events of an advance already taken (R113). -/
def Work.requestTime (w : Work) (time : BitVec 24) (day : BitVec 16) : Result × Work :=
  if time.toNat < Config.secondsPerDay then (.done, w.finishAdvance.setTime time.toNat day)
  else (.badValue, w)

/-- PART_READ (R165). -/
def Work.requestRead (w : Work) (table index position : Byte) : Answer × Work :=
  match w.reading table index with
  | .error r => (Answer.of r, w)
  | .ok r => ({ results := [.done], extra := r.contents position.toNat }, w)

/-! ### Orders (R166) -/

/-- The table code and index of a failing record (R177). -/
def Failure.bytes : Failure → List Byte
  | .pump p => [3, byte p.val]
  | .house h => [2, byte h.val]
  | .zone z => [1, byte z.val]

/-- RUN once its target is known (R122, R123). -/
def Work.runTo (w : Work) (target : Mode) : Answer × Work :=
  match w.validate with
  | some failure => ({ results := [.badConfig], extra := failure.bytes }, w)
  | none => (Answer.of .done, w.enterRun target)

/-- RUN (R122). -/
def Work.orderRun (w : Work) (target : Byte) : Answer × Work :=
  match w.authority.mode with
  | .config =>
    match target.toNat with
    | 1 => w.runTo .supervised
    | 2 => w.runTo .autonomous
    | _ => (Answer.of .badValue, w)
  | _ => (Answer.of .refusedMode, w)

/-- SUPERVISE (R126). -/
def Work.orderSupervise (w : Work) : Result × Work :=
  match w.authority.mode with
  | .config => (.refusedMode, w)
  | .supervised => (.done, w)
  | .autonomous => (.done, w.toSupervised)

/-- AUTONOMOUS (R127). -/
def Work.orderAutonomous (w : Work) : Result × Work :=
  match w.authority.mode with
  | .config => (.refusedMode, w)
  | .supervised => (.done, w.toAutonomous)
  | .autonomous => (.done, w)

/-- CONFIG (R128, R129). -/
def Work.orderConfig (w : Work) : Result × Work :=
  match w.authority.mode with
  | .config => (.done, w)
  | _ => if w.busy then (.busy, w) else (.done, w.toConfig)

/-- CLEAR_LOCKOUT (R102). DESIGN CHOICE: R102 does not order its two refusals; a pump above 47 is
BAD_INDEX whatever the member (notes/assumptions/11.md). -/
def Work.orderClearLockout (w : Work) (pump member : Byte) : Result × Work :=
  match objectOf 48 pump.toNat with
  | none => (.badIndex, w)
  | some p =>
    match membersNamed member with
    | none => (.badValue, w)
    | some l =>
      let x := w.clearMembers p false l
      (if x.1 then .causePresent else .done, x.2)

/-- ENABLE_INTERLOCK (R99). DESIGN CHOICE: R99 does not order its two refusals; an entry above 31 is
BAD_INDEX whatever the request (notes/assumptions/11.md). -/
def Work.orderEnableInterlock (w : Work) (entry request : Byte) : Result × Work :=
  match objectOf 32 entry.toNat with
  | none => (.badIndex, w)
  | some e =>
    match request.toNat with
    | 0 => w.orderEnable e false
    | 1 => w.orderEnable e true
    | _ => (.badValue, w)

/-- The flag a CLEAR_FLAGS names: kinds 1 to 16 in the order of R167 (R168, R176). -/
def flagNamed (kind object : Byte) : Except Result Flag :=
  let pump (k : PumpFlag) : Except Result Flag :=
    match objectOf 48 object.toNat with
    | some p => .ok (.pump k p)
    | none => .error .badIndex
  let zone (k : ZoneFlag) : Except Result Flag :=
    match objectOf 16 object.toNat with
    | some z => .ok (.zone k z)
    | none => .error .badIndex
  let port (k : PortFlag) : Except Result Flag :=
    match portOf object with
    | some p => .ok (.port k p)
    | none => .error .badIndex
  let part (k : PartFlag) : Except Result Flag :=
    if object = 0 then .ok (.part k) else .error .badIndex
  match kind.toNat with
  | 1 => pump .failToStart
  | 2 => pump .failToStop
  | 3 => pump .outstationTrip
  | 4 => pump .uncommandedRun
  | 5 => pump .uncommandedStop
  | 6 => pump .queueTimeout
  | 7 => zone .stale
  | 8 => zone .sensorFail
  | 9 => zone .thresholdCollapse
  | 10 => port .loss
  | 11 => port .testErrors
  | 12 => part .queueFull
  | 13 => part .modeFallback
  | 14 => part .planSwapped
  | 15 => part .planKept
  | 16 => part .rejectedTelegrams
  | _ => .error .badValue

/-- The tracker's two counts and the switch's three become 0 (R7, R161, R168). -/
def Work.zeroCounts (w : Work) : Work :=
  (w.setTracker { mismatch := 0, unknown := 0 }).setSwitch
    { w.switch with rejected := 0, misdirected := 0, unrouted := 0 }

/-- A flag becomes clear and leaves the latch order (R168). -/
def Work.clearFlag (w : Work) (f : Flag) : Work :=
  let w := w.setEvents { w.events with latched := w.events.latched.filter fun x => x.flag != f }
  if f = .part .rejectedTelegrams then w.zeroCounts else w

/-- Every flag becomes clear (R168). -/
def Work.clearAllFlags (w : Work) : Work :=
  (w.setEvents { w.events with latched := [] }).zeroCounts

/-- CLEAR_FLAGS (R168); 255 is ALL (R176). -/
def Work.orderClearFlags (w : Work) (kind object : Byte) : Result × Work :=
  if kind = 255 then (.done, w.clearAllFlags)
  else
    match flagNamed kind object with
    | .error r => (r, w)
    | .ok f => (.done, w.clearFlag f)

/-- An order that names a port (R166). -/
def Work.onPort (w : Work) (port : Byte) (f : Port → Work) : Result × Work :=
  match portOf port with
  | none => (.badIndex, w)
  | some p => (.done, f p)

/-- LATCH_COUNTER (R144). -/
def Work.orderLatchCounter (w : Work) (port : Byte) : Result × Work :=
  w.onPort port fun p => w.setPort p (w.port p).latchCount

/-- INSERT_ERROR (R147). -/
def Work.orderInsertError (w : Work) (port : Byte) : Result × Work :=
  w.onPort port fun p => w.setPort p (w.port p).insertError

/-- PORT_MODE (R145, R176): the mode byte is judged first (notes/assumptions/11.md). -/
def Work.orderPortMode (w : Work) (port mode : Byte) (settings : TestBody) : Answer × Work :=
  match mode.toNat with
  | 0 => answered (w.onPort port fun p => w.orderNormal p)
  | 1 =>
    match portOf port with
    | none => (Answer.of .badIndex, w)
    | some p =>
      match testSettingsOf settings with
      | none => (Answer.of .badValue, w)
      | some t =>
        if p = .c ∧ t.duration = 0 then (Answer.of .badValue, w)
        else
          let x := w.orderTest p t
          ({ results := [.done], deferred := x.2 }, x.1)
  | _ => (Answer.of .badValue, w)

/-- PORT_RESET (R148). -/
def Work.orderPortReset (w : Work) (port : Byte) : Answer × Work :=
  match portOf port with
  | none => (Answer.of .badIndex, w)
  | some p =>
    let x := w.orderReset p
    ({ results := [.done], deferred := x.2 }, x.1)

/-- A load of the port table, answered. -/
def portAnswer (x : (Result × Option DeferredAction) × Work) : Answer × Work :=
  ({ results := [x.1.1], deferred := x.1.2 }, x.2)

end Sys2Proof.Machine
end

