-- ==== Sys2Proof/Machine/Switching.lean ====
section
/-! DEFINITION. The telegram switch (chapter 9): classification (R153 to R156, R160), forwarding (R158), counts (R161), the hand-over to the tracker (R4, R14, R17), and the parsing of requests into the responder's operations (R162, R175, R176). -/

namespace Sys2Proof.Machine

/-! ### Counts (R161) -/

/-- A telegram is rejected: counted and flagged. -/
def Work.rejectTelegram (w : Work) : Work :=
  (w.setSwitch { w.switch with rejected := raise w.switch.rejected }).latch (.part .rejectedTelegrams)

/-- A telegram is misdirected: counted. -/
def Work.misdirect (w : Work) : Work :=
  w.setSwitch { w.switch with misdirected := raise w.switch.misdirected }

/-- A telegram is unrouted: counted. -/
def Work.countUnrouted (w : Work) : Work :=
  w.setSwitch { w.switch with unrouted := raise w.switch.unrouted }

/-! ### Reports at the tracker (R4, R14, R17) -/

/-- A LEVEL_REPORT: its house is heard, then each item is taken whole (R4, R17). -/
def Work.takeLevels (w : Work) (source : Addr) (items : List LevelItem) : Work :=
  items.foldl (fun w i => (w.takeReading source i).settle) (w.houseHeard source).settle

/-- A PUMP_REPORT: its house is heard, then each item is taken whole (R14, R17). -/
def Work.takePumps (w : Work) (source : Addr) (items : List PumpItem) : Work :=
  items.foldl (fun w i => (w.takePumpItem source i).settle) (w.houseHeard source).settle

/-! ### Requests as their bytes give them (R162, R175, R176) -/

/-- The body of a PART_LOAD for its table (R163, R176). -/
def Work.takeLoad (w : Work) (table index : Byte) (body : List Byte) : Answer × Work :=
  match table.toNat with
  | 1 => answered (w.loadZoneTable index (fieldEntries body))
  | 2 => answered (w.loadHouseTable index (fieldEntries body))
  | 3 => answered (w.loadPumpTable index (fieldEntries body))
  | 4 => answered (w.loadRunTimeTable index (fieldEntries body))
  | 5 => answered (w.loadProfileTable index (profileBody body))
  | 6 => answered (w.loadFeederTable index (fieldEntries body))
  | 7 => answered (w.loadInterlockTable index (interlockBody body))
  | 8 => answered (w.loadInputTable index (fieldEntries body))
  | 9 => answered (w.loadActiveTable index (planBody body))
  | 10 => answered (w.loadNextTable index (planBody body))
  | 11 => answered (w.loadRouteTable index (fieldEntries body))
  | 12 => answered (w.loadSwitchTable index (fieldEntries body))
  | 13 => portAnswer (w.loadPortTable index (fieldEntries body))
  | 14 => answered (w.loadGeneralTable index (fieldEntries body))
  | _ => (Answer.of .badTable, w)

/-- A PORT_MODE order by its parameter bytes (R176). -/
def Work.takePortMode (w : Work) (parameters : List Byte) : Answer × Work :=
  let none : TestBody := { pattern := 0, user := 0, invert := 0, duration := 0 }
  match parameters with
  | [port, 0] => w.orderPortMode port 0 none
  | [port, 1, pattern, u2, u1, u0, invert, d1, d0] =>
    w.orderPortMode port 1
      { pattern := pattern, user := u2 ++ u1 ++ u0, invert := invert, duration := d1 ++ d0 }
  | _ => (Answer.of .badValue, w)

/-- A PART_ORDER by its code and parameter bytes (R166, R176). -/
def Work.takeOrder (w : Work) (code : Byte) (parameters : List Byte) : Answer × Work :=
  match code.toNat, parameters with
  | 1, [target] => w.orderRun target
  | 2, [] => answered w.orderSupervise
  | 3, [] => answered w.orderAutonomous
  | 4, [] => answered w.orderConfig
  | 5, [] => (Answer.of .done, w.restart)
  | 6, [pump, member] => answered (w.orderClearLockout pump member)
  | 7, [entry, request] => answered (w.orderEnableInterlock entry request)
  | 8, [kind, object] => answered (w.orderClearFlags kind object)
  | 9, [port] => answered (w.orderLatchCounter port)
  | 10, l => w.takePortMode l
  | 11, [port] => answered (w.orderInsertError port)
  | 12, [port] => w.orderPortReset port
  | 13, [] => answered w.planMarked
  | 14, [] => answered w.planSwapOrdered
  | _, _ => (Answer.of .badValue, w)

/-- A management telegram by its kind and items; items that do not parse are answered BAD_VALUE
(R162). -/
def Work.takeRequest (w : Work) (kind : Byte) (items : List Byte) : Answer × Work :=
  if kind = kindTimeSet then
    match items with
    | [t2, t1, t0, d1, d0] => answered (w.requestTime (t2 ++ t1 ++ t0) (d1 ++ d0))
    | _ => (Answer.of .badValue, w)
  else if kind = kindPartLoad then
    match items with
    | table :: index :: body => w.takeLoad table index body
    | _ => (Answer.of .badValue, w)
  else if kind = kindPartRead then
    match items with
    | [table, index, position] => w.requestRead table index position
    | _ => (Answer.of .badValue, w)
  else
    match items with
    | code :: parameters => w.takeOrder code parameters
    | [] => (Answer.of .badValue, w)

/-- An intercepted PUMP_SET: one result for each item, or BAD_VALUE if the items are not whole (R157,
R175). -/
def Work.takeSettings (w : Work) (h : HouseId) (items : List Byte) : Answer × Work :=
  if items.length % 4 ≠ 0 then (Answer.of .badValue, w)
  else
    let x := w.takeItems h (setItems items)
    ({ results := x.1 }, x.2)

/-! ### Classification (R153 to R160) -/

/-- The house of a PUMP_SET that names a configured pump (R156). -/
def State.houseNamed (s : State) (t : Telegram) : Option HouseId :=
  match s.houseAt t.destination with
  | some h =>
    if (setItems t.items).any fun i => (s.pumpNamed h i.index).isSome then some h else none
  | none => none

/-- A telegram from port C is offered toward the field (R158). -/
def Work.forward (w : Work) (destination : Addr) (bytes : List Byte) : Work :=
  if destination = Config.broadcast then (w.offerPass .f1 bytes).offerPass .f2 bytes
  else
    match w.routeTo destination with
    | some port => w.offerPass port bytes
    | none => w.countUnrouted

/-- A telegram from port C (R154 to R156). -/
def Work.fromControl (w : Work) (t : Telegram) (bytes : List Byte) : Work :=
  if t.destination = w.switch.partAddress then
    if isManagementKind t.kind && t.source == w.switch.controlAddress then
      w.manage t.kind fun w => w.takeRequest t.kind t.items
    else w.rejectTelegram
  else if t.kind = kindPumpSet then
    if t.destination = Config.broadcast then w.rejectTelegram
    else
      match w.houseNamed t with
      | some h =>
        if t.source = w.switch.controlAddress then
          w.manage kindPumpSet fun w => w.takeSettings h t.items
        else w.rejectTelegram
      | none => w.forward t.destination bytes
  else w.forward t.destination bytes

/-- A telegram from a field port (R160). -/
def Work.fromField (w : Work) (t : Telegram) (bytes : List Byte) : Work :=
  if t.destination = w.switch.partAddress then w.misdirect
  else
    let w := w.offerPass .c bytes
    if t.kind = kindLevelReport then w.takeLevels t.source (levelItems t.items)
    else if t.kind = kindPumpReport then w.takePumps t.source (pumpItems t.items)
    else w

/-- A false source, tested before all else (R153). -/
def State.falseSource (s : State) (t : Telegram) : Bool :=
  t.source == Config.broadcast || t.source == s.switch.partAddress

/-- The switch takes a telegram a port hands over (R152, R153). -/
def Work.switchTelegram (w : Work) (p : Port) (t : Telegram) (bytes : List Byte) : Work :=
  match p with
  | .c =>
    let w : Work := if t.source = w.switch.controlAddress then w.controlHeard else w
    if w.falseSource t then w.rejectTelegram else w.fromControl t bytes
  | _ => if w.falseSource t then w.misdirect else w.fromField t bytes

/-- A receive completion at a port that is UP: the receiver hunts for the next start mark at once
(R140), then the checks of R140 and the switch. -/
def Work.receive (w : Work) (p : Port) (bytes : List Byte) : Work :=
  if (w.port p).state = .up then
    let w := w.setPort p ((w.port p).inPhase .hunting)
    match checkReceived bytes with
    | .badLength => w.countError p .length
    | .badCheck => w.countError p .checkFail
    | .telegram t => w.switchTelegram p t bytes
  else w

end Sys2Proof.Machine
end

