-- ==== Sys2Proof/Machine/Lines.lean ====
section
/-! DEFINITION. The meanings of the line events: PORT_UP, LOSS_OF_CODE, LINE_VIOLATION, TELEGRAM_ABANDONED, RECEIVE_COMPLETION, the transmitters, the test timer and the pattern checker. -/

namespace Sys2Proof.Machine

/-- PORT_UP (R136): a DOWN port has acquired. -/
def execPortUp (port : Port) (s : State) : Host.Outcome State Fault Refusal :=
  .next (run (fun w => if (w.port port).state = .down then w.setPortState port .up else w) s)

/-- LOSS_OF_CODE (R137). -/
def execLossOfCode (port : Port) (s : State) : Host.Outcome State Fault Refusal :=
  .next (run (fun w => w.lossOfCode port) s)

/-- LINE_VIOLATION (R136, R139, R143, R146; notes/assumptions/28.md). -/
def execLineViolation (port : Port) (s : State) : Host.Outcome State Fault Refusal :=
  .next (run (fun w => w.violation port) s)

/-- TELEGRAM_ABANDONED (R139; notes/assumptions/28.md). -/
def execTelegramAbandoned (port : Port) (cause : AbandonCause) (s : State) :
    Host.Outcome State Fault Refusal :=
  .next (run (fun w => w.abandon port cause) s)

/-- RECEIVE_COMPLETION (R140, R152): the telegram is checked and taken by the switch to its end
(notes/assumptions/8.md). -/
def execReceiveCompletion (port : Port) (bytes : List Byte) (s : State) :
    Host.Outcome State Fault Refusal :=
  .next (run (fun w => w.receive port bytes) s)

/-- TRANSMIT_TAKE (R142). -/
def execTransmitTake (port : Port) (s : State) : Host.Outcome State Fault Refusal :=
  .next (run (fun w => w.transmitTake port) s)

/-- TRANSMISSION_COMPLETE (R142). -/
def execTransmissionComplete (port : Port) (s : State) : Host.Outcome State Fault Refusal :=
  .next (run (fun w => w.transmissionComplete port) s)

/-- TEST_TIMER_EXPIRY (R145). -/
def execTestTimerExpiry (port : Port) (s : State) : Host.Outcome State Fault Refusal :=
  .next (run (fun w =>
    if (w.port port).state = .test && (w.port port).testTimer.due w.now then w.orderNormal port
    else w) s)

/-- CHECKER_IN_SYNC (R146). -/
def execCheckerInSync (port : Port) (s : State) : Host.Outcome State Fault Refusal :=
  .next (run (fun w => w.setPort port (w.port port).checkerSync) s)

/-- PATTERN_BIT_ERROR (R146). -/
def execPatternBitError (port : Port) (s : State) : Host.Outcome State Fault Refusal :=
  .next (run (fun w => w.patternError port) s)

/-- CHECKER_RETURN_TO_HUNTING (R146). -/
def execCheckerReturnToHunting (port : Port) (s : State) : Host.Outcome State Fault Refusal :=
  .next (run (fun w => w.setPort port (w.port port).checkerHunt) s)

end Sys2Proof.Machine
end

