-- ==== Sys2Proof/Machine/Orders.lean ====
section
/-! DEFINITION. The meanings of the orders (R166). -/

namespace Sys2Proof.Machine

/-- RUN (R122, R123). -/
def execRun (target : Byte) (s : State) : Host.Outcome State Fault Refusal :=
  .next (run (fun w => w.manage kindPartOrder fun w => w.orderRun target) s)

/-- SUPERVISE (R126). -/
def execSupervise (s : State) : Host.Outcome State Fault Refusal :=
  .next (run (fun w => w.manage kindPartOrder fun w => answered w.orderSupervise) s)

/-- AUTONOMOUS (R127). -/
def execAutonomous (s : State) : Host.Outcome State Fault Refusal :=
  .next (run (fun w => w.manage kindPartOrder fun w => answered w.orderAutonomous) s)

/-- CONFIG (R128, R129). -/
def execConfig (s : State) : Host.Outcome State Fault Refusal :=
  .next (run (fun w => w.manage kindPartOrder fun w => answered w.orderConfig) s)

/-- CLEAR_LOCKOUT (R102). -/
def execClearLockout (pump member : Byte) (s : State) : Host.Outcome State Fault Refusal :=
  .next (run (fun w => w.manage kindPartOrder fun w => answered (w.orderClearLockout pump member)) s)

/-- ENABLE_INTERLOCK (R99 to R101). -/
def execEnableInterlock (entry request : Byte) (s : State) : Host.Outcome State Fault Refusal :=
  .next (run (fun w => w.manage kindPartOrder fun w => answered (w.orderEnableInterlock entry request)) s)

/-- CLEAR_FLAGS (R168). -/
def execClearFlags (kind object : Byte) (s : State) : Host.Outcome State Fault Refusal :=
  .next (run (fun w => w.manage kindPartOrder fun w => answered (w.orderClearFlags kind object)) s)

/-- LATCH_COUNTER (R144). -/
def execLatchCounter (port : Byte) (s : State) : Host.Outcome State Fault Refusal :=
  .next (run (fun w => w.manage kindPartOrder fun w => answered (w.orderLatchCounter port)) s)

/-- PORT_MODE (R145). -/
def execPortMode (port mode : Byte) (settings : TestBody) (s : State) : Host.Outcome State Fault Refusal :=
  .next (run (fun w => w.manage kindPartOrder fun w => w.orderPortMode port mode settings) s)

/-- INSERT_ERROR (R147). -/
def execInsertError (port : Byte) (s : State) : Host.Outcome State Fault Refusal :=
  .next (run (fun w => w.manage kindPartOrder fun w => answered (w.orderInsertError port)) s)

/-- PORT_RESET (R148). -/
def execPortReset (port : Byte) (s : State) : Host.Outcome State Fault Refusal :=
  .next (run (fun w => w.manage kindPartOrder fun w => w.orderPortReset port) s)

/-- PLAN_MARK (R119). -/
def execPlanMark (s : State) : Host.Outcome State Fault Refusal :=
  .next (run (fun w => w.manage kindPartOrder fun w => answered w.planMarked) s)

/-- PLAN_SWAP (R119). -/
def execPlanSwap (s : State) : Host.Outcome State Fault Refusal :=
  .next (run (fun w => w.manage kindPartOrder fun w => answered w.planSwapOrdered) s)

end Sys2Proof.Machine
end

