-- ==== Sys2Proof/Machine/Requests.lean ====
section
/-! DEFINITION. The meanings of the reports at the tracker (LEVEL_REPORT, PUMP_REPORT), of TIME_SET and of the pump requests (START, STOP, SPEED), each as the switch hands it over (notes/assumptions/8.md). -/

namespace Sys2Proof.Machine

/-- LEVEL_REPORT (R4 to R13, R17). -/
def execLevelReport (source : Addr) (items : List LevelItem) (s : State) :
    Host.Outcome State Fault Refusal :=
  .next (run (fun w => w.takeLevels source items) s)

/-- PUMP_REPORT (R14, R17, R47). -/
def execPumpReport (source : Addr) (items : List PumpItem) (s : State) :
    Host.Outcome State Fault Refusal :=
  .next (run (fun w => w.takePumps source items) s)

/-- TIME_SET (R112). -/
def execTimeSet (time : BitVec 24) (day : BitVec 16) (s : State) :
    Host.Outcome State Fault Refusal :=
  .next (run (fun w => w.manage kindTimeSet fun w => answered (w.requestTime time day)) s)

/-- A request for a pump, as the one item of an intercepted PUMP_SET (R124, R157). -/
def Work.requestPump (w : Work) (p : PumpId) (r : Request) : Work :=
  w.manage kindPumpSet fun w =>
    answered (if w.pumps[p].configured then w.gate p r else (.badIndex, w))

/-- START (R71, R124). -/
def execStart (pump : PumpId) (priority : Byte) (s : State) : Host.Outcome State Fault Refusal :=
  .next (run (fun w => w.requestPump pump (.start priority)) s)

/-- STOP (R54, R74, R124). -/
def execStop (pump : PumpId) (s : State) : Host.Outcome State Fault Refusal :=
  .next (run (fun w => w.requestPump pump .stop) s)

/-- SPEED (R60, R124). -/
def execSpeed (pump : PumpId) (percent : Byte) (s : State) : Host.Outcome State Fault Refusal :=
  .next (run (fun w => w.requestPump pump (.speed percent)) s)

end Sys2Proof.Machine
end

