-- ==== Sys2Proof/Machine/Resets.lean ====
section
/-! DEFINITION. The meanings of the resets and of the pins: COLD_RESET, RESTART, INPUT_LEVEL_CHANGE, FILTER_EXPIRY. -/

namespace Sys2Proof.Machine

/-- COLD_RESET (R149). -/
def execColdReset (straps : Addr) (s : State) : Host.Outcome State Fault Refusal :=
  .next (s.coldReset straps)

/-- RESTART (R133). -/
def execRestart (s : State) : Host.Outcome State Fault Refusal :=
  .next (run (fun w => w.manage kindPartOrder fun w => (Answer.of .done, w.restart)) s)

/-- INPUT_LEVEL_CHANGE (R107). -/
def execInputLevelChange (line : LineId) (level : PinLevel) (s : State) :
    Host.Outcome State Fault Refusal :=
  .next (run (fun w => w.lineChanged line level) s)

/-- FILTER_EXPIRY (R107, R108): no effect on a line whose filter timer is idle. -/
def execFilterExpiry (line : LineId) (s : State) : Host.Outcome State Fault Refusal :=
  .next (run (fun w => if w.inputs[line].filterTimer.isSome then w.acceptLine line else w) s)

end Sys2Proof.Machine
end

