-- ==== Sys2Proof/Machine/Tables.lean ====
section
/-! DEFINITION. The meanings of the loads, one for each table (R163), and of PART_READ (R165). -/

namespace Sys2Proof.Machine

/-- PART_LOAD_ZONE (R1, R2, R163). -/
def execPartLoadZone (index : Byte) (fields : List FieldEntry) (s : State) :
    Host.Outcome State Fault Refusal :=
  .next (run (fun w =>
    w.manage kindPartLoad fun w => answered (w.loadZoneTable index (some fields))) s)

/-- PART_LOAD_HOUSE (R16, R163). -/
def execPartLoadHouse (index : Byte) (fields : List FieldEntry) (s : State) :
    Host.Outcome State Fault Refusal :=
  .next (run (fun w =>
    w.manage kindPartLoad fun w => answered (w.loadHouseTable index (some fields))) s)

/-- PART_LOAD_PUMP (R38, R39, R163). -/
def execPartLoadPump (index : Byte) (fields : List FieldEntry) (s : State) :
    Host.Outcome State Fault Refusal :=
  .next (run (fun w =>
    w.manage kindPartLoad fun w => answered (w.loadPumpTable index (some fields))) s)

/-- PART_LOAD_RUN_TIME (R39, R163). -/
def execPartLoadRunTime (index : Byte) (fields : List FieldEntry) (s : State) :
    Host.Outcome State Fault Refusal :=
  .next (run (fun w =>
    w.manage kindPartLoad fun w => answered (w.loadRunTimeTable index (some fields))) s)

/-- PART_LOAD_PROFILE (R42, R163). -/
def execPartLoadProfile (index : Byte) (points : List PointBody) (s : State) :
    Host.Outcome State Fault Refusal :=
  .next (run (fun w =>
    w.manage kindPartLoad fun w => answered (w.loadProfileTable index (some points))) s)

/-- PART_LOAD_FEEDER (R77, R163). -/
def execPartLoadFeeder (index : Byte) (fields : List FieldEntry) (s : State) :
    Host.Outcome State Fault Refusal :=
  .next (run (fun w =>
    w.manage kindPartLoad fun w => answered (w.loadFeederTable index (some fields))) s)

/-- PART_LOAD_INTERLOCK (R91, R92, R163). -/
def execPartLoadInterlock (index : Byte) (body : InterlockBody) (s : State) :
    Host.Outcome State Fault Refusal :=
  .next (run (fun w =>
    w.manage kindPartLoad fun w => answered (w.loadInterlockTable index (some body))) s)

/-- PART_LOAD_INPUT (R106, R163). -/
def execPartLoadInput (index : Byte) (fields : List FieldEntry) (s : State) :
    Host.Outcome State Fault Refusal :=
  .next (run (fun w =>
    w.manage kindPartLoad fun w => answered (w.loadInputTable index (some fields))) s)

/-- PART_LOAD_PLAN_ACTIVE (R114, R163). -/
def execPartLoadPlanActive (index : Byte) (window : Option WindowBody) (s : State) :
    Host.Outcome State Fault Refusal :=
  .next (run (fun w =>
    w.manage kindPartLoad fun w => answered (w.loadActiveTable index (some window))) s)

/-- PART_LOAD_PLAN_NEXT (R114, R115, R163). -/
def execPartLoadPlanNext (index : Byte) (window : Option WindowBody) (s : State) :
    Host.Outcome State Fault Refusal :=
  .next (run (fun w =>
    w.manage kindPartLoad fun w => answered (w.loadNextTable index (some window))) s)

/-- PART_LOAD_ROUTE (R151, R163). -/
def execPartLoadRoute (index : Byte) (fields : List FieldEntry) (s : State) :
    Host.Outcome State Fault Refusal :=
  .next (run (fun w =>
    w.manage kindPartLoad fun w => answered (w.loadRouteTable index (some fields))) s)

/-- PART_LOAD_SWITCH (R150, R163). -/
def execPartLoadSwitch (index : Byte) (fields : List FieldEntry) (s : State) :
    Host.Outcome State Fault Refusal :=
  .next (run (fun w =>
    w.manage kindPartLoad fun w => answered (w.loadSwitchTable index (some fields))) s)

/-- PART_LOAD_PORT (R135, R163). -/
def execPartLoadPort (index : Byte) (fields : List FieldEntry) (s : State) :
    Host.Outcome State Fault Refusal :=
  .next (run (fun w =>
    w.manage kindPartLoad fun w => portAnswer (w.loadPortTable index (some fields))) s)

/-- PART_LOAD_GENERAL (R164, R163). -/
def execPartLoadGeneral (index : Byte) (fields : List FieldEntry) (s : State) :
    Host.Outcome State Fault Refusal :=
  .next (run (fun w =>
    w.manage kindPartLoad fun w => answered (w.loadGeneralTable index (some fields))) s)

/-- PART_READ (R165, R177). -/
def execPartRead (table index position : Byte) (s : State) : Host.Outcome State Fault Refusal :=
  .next (run (fun w => w.manage kindPartRead fun w => w.requestRead table index position) s)

end Sys2Proof.Machine
end

