-- ==== Sys2Proof/Machine/Time.lean ====
section
/-! DEFINITION. The meanings of the clock's events: MONOTONIC_COUNT_RISE and the periodic events (R109 to R111), each of which acts only when an advance has made it due (notes/assumptions/5.md). -/

namespace Sys2Proof.Machine

/-- MONOTONIC_COUNT_RISE (R109, R111). -/
def execMonotonicCountRise (s : State) : Host.Outcome State Fault Refusal :=
  .next (run (fun w => w.setClock w.clock.tenth) s)

/-- SECOND_EVENT (R65, R110, R144). -/
def execSecondEvent (s : State) : Host.Outcome State Fault Refusal :=
  .next (run (fun w => if 0 < w.clock.secondsDue then w.secondTaken else w) s)

/-- MINUTE_EVENT (R64, R110, R116). -/
def execMinuteEvent (s : State) : Host.Outcome State Fault Refusal :=
  .next (run (fun w => if 0 < w.clock.minutesDue then w.minuteTaken else w) s)

/-- HOUR_EVENT (R110). -/
def execHourEvent (s : State) : Host.Outcome State Fault Refusal :=
  .next (run (fun w => if 0 < w.clock.hoursDue then w.hourTaken else w) s)

/-- DAY_EVENT (R110, R118). -/
def execDayEvent (s : State) : Host.Outcome State Fault Refusal :=
  .next (run (fun w => if 0 < w.clock.daysDue then w.dayTaken else w) s)

end Sys2Proof.Machine
end

