-- ==== Sys2Proof/Machine/Timers.lean ====
section
/-! DEFINITION. The meanings of the timer expiries. Each acts when the monotonic count has reached its timer's expiry (R111), and otherwise finds nothing to act on (notes/assumptions/13.md). -/

namespace Sys2Proof.Machine

/-- The min run timer expires: the test of R55 for a pump with stop pending (R63). -/
def Work.minRunExpired (w : Work) (p : PumpId) : Work :=
  let w := w.setPump p { w.pumps[p] with minRunTimer := .idle }
  if w.pumps[p].state == .running && w.pumps[p].stopPending && w.stopAllowed p then w.beginStop p
  else w

/-- The min off timer expires: the arbiter evaluates its grants (R63, R80). -/
def Work.minOffExpired (w : Work) (p : PumpId) : Work :=
  (w.setPump p { w.pumps[p] with minOffTimer := .idle }).push .evaluate

/-- The holdoff timer expires and the offer is tried (R170). -/
def Work.holdoffExpired (w : Work) : Work :=
  (w.setEvents { w.events with holdoff := .idle }).offerAlert

/-- STALE_TIMER_EXPIRY (R11). -/
def execStaleTimerExpiry (zone : ZoneId) (s : State) : Host.Outcome State Fault Refusal :=
  .next (run (fun w => if w.zones[zone].staleTimer.due w.now then w.staleExpired zone else w) s)

/-- SILENCE_TIMER_EXPIRY (R17). -/
def execSilenceTimerExpiry (house : HouseId) (s : State) : Host.Outcome State Fault Refusal :=
  .next (run (fun w => if w.houses[house].silenceTimer.due w.now then w.silenceExpired house else w) s)

/-- STEP_TIMER_EXPIRY (R29). -/
def execStepTimerExpiry (zone : ZoneId) (s : State) : Host.Outcome State Fault Refusal :=
  .next (run (fun w => if w.zones[zone].stepTimer.due w.now then w.stepExpired zone else w) s)

/-- DWELL_EXPIRY (R51, R56). -/
def execDwellExpiry (pump : PumpId) (s : State) : Host.Outcome State Fault Refusal :=
  .next (run (fun w => if w.pumps[pump].dwellTimer.due w.now then w.dwellExpired pump else w) s)

/-- START_CONFIRM_EXPIRY (R52). -/
def execStartConfirmExpiry (pump : PumpId) (s : State) : Host.Outcome State Fault Refusal :=
  .next (run (fun w => if w.pumps[pump].state = .starting && w.pumps[pump].confirmTimer.due w.now then w.startFailed pump else w) s)

/-- STOP_CONFIRM_EXPIRY (R57). -/
def execStopConfirmExpiry (pump : PumpId) (s : State) : Host.Outcome State Fault Refusal :=
  .next (run (fun w => if w.pumps[pump].state = .stopping && w.pumps[pump].confirmTimer.due w.now then w.stopFailed pump else w) s)

/-- MIN_RUN_EXPIRY (R55, R63). -/
def execMinRunExpiry (pump : PumpId) (s : State) : Host.Outcome State Fault Refusal :=
  .next (run (fun w => if w.pumps[pump].minRunTimer.due w.now then w.minRunExpired pump else w) s)

/-- MIN_OFF_EXPIRY (R63, R80). -/
def execMinOffExpiry (pump : PumpId) (s : State) : Host.Outcome State Fault Refusal :=
  .next (run (fun w => if w.pumps[pump].minOffTimer.due w.now then w.minOffExpired pump else w) s)

/-- QUEUE_WAIT_END (R75). -/
def execQueueWaitEnd (pump : PumpId) (s : State) : Host.Outcome State Fault Refusal :=
  .next (run (fun w => if (w.entryOf pump).any w.waitOver then w.timeOut pump else w) s)

/-- SETTLE_TIMER_EXPIRY (R86). -/
def execSettleTimerExpiry (zone : ZoneId) (s : State) : Host.Outcome State Fault Refusal :=
  .next (run (fun w => if w.zones[zone].settleTimer.due w.now then w.settleExpired zone else w) s)

/-- CONTROL_SILENCE_EXPIRY (R130). -/
def execControlSilenceExpiry (s : State) : Host.Outcome State Fault Refusal :=
  .next (run (fun w => if w.authority.silenceTimer.due w.now then w.setSilence .idle else w) s)

/-- FALLBACK_EXPIRY (R131). -/
def execFallbackExpiry (s : State) : Host.Outcome State Fault Refusal :=
  .next (run (fun w => if w.authority.fallbackTimer.due w.now then w.fallback else w) s)

/-- HOLDOFF_EXPIRY (R170). -/
def execHoldoffExpiry (s : State) : Host.Outcome State Fault Refusal :=
  .next (run (fun w => if w.events.holdoff.due w.now then w.holdoffExpired else w) s)

end Sys2Proof.Machine
end

