-- ==== Sys2Proof/Machine/Dispatch.lean ====
section
/-! DEFINITION. The meaning of each command: one arm for each row of spec/opcode_table.json. -/

namespace Sys2Proof.Machine

def exec (i : Instr) (s : State) : Host.Outcome State Fault Refusal :=
  match i with
  | .coldReset straps => Sys2Proof.Machine.execColdReset straps s
  | .restart => Sys2Proof.Machine.execRestart s
  | .inputLevelChange line level => Sys2Proof.Machine.execInputLevelChange line level s
  | .filterExpiry line => Sys2Proof.Machine.execFilterExpiry line s
  | .secondEvent => Sys2Proof.Machine.execSecondEvent s
  | .minuteEvent => Sys2Proof.Machine.execMinuteEvent s
  | .hourEvent => Sys2Proof.Machine.execHourEvent s
  | .dayEvent => Sys2Proof.Machine.execDayEvent s
  | .portUp port => Sys2Proof.Machine.execPortUp port s
  | .lossOfCode port => Sys2Proof.Machine.execLossOfCode port s
  | .telegramAbandoned port cause => Sys2Proof.Machine.execTelegramAbandoned port cause s
  | .receiveCompletion port bytes => Sys2Proof.Machine.execReceiveCompletion port bytes s
  | .levelReport source items => Sys2Proof.Machine.execLevelReport source items s
  | .pumpReport source items => Sys2Proof.Machine.execPumpReport source items s
  | .timeSet time day => Sys2Proof.Machine.execTimeSet time day s
  | .start pump priority => Sys2Proof.Machine.execStart pump priority s
  | .stop pump => Sys2Proof.Machine.execStop pump s
  | .speed pump percent => Sys2Proof.Machine.execSpeed pump percent s
  | .partLoadZone index fields => Sys2Proof.Machine.execPartLoadZone index fields s
  | .partLoadHouse index fields => Sys2Proof.Machine.execPartLoadHouse index fields s
  | .partLoadPump index fields => Sys2Proof.Machine.execPartLoadPump index fields s
  | .partLoadRunTime index fields => Sys2Proof.Machine.execPartLoadRunTime index fields s
  | .partLoadProfile index points => Sys2Proof.Machine.execPartLoadProfile index points s
  | .partLoadFeeder index fields => Sys2Proof.Machine.execPartLoadFeeder index fields s
  | .partLoadInterlock index body => Sys2Proof.Machine.execPartLoadInterlock index body s
  | .partLoadInput index fields => Sys2Proof.Machine.execPartLoadInput index fields s
  | .partLoadPlanActive index window => Sys2Proof.Machine.execPartLoadPlanActive index window s
  | .partLoadPlanNext index window => Sys2Proof.Machine.execPartLoadPlanNext index window s
  | .partLoadRoute index fields => Sys2Proof.Machine.execPartLoadRoute index fields s
  | .partLoadSwitch index fields => Sys2Proof.Machine.execPartLoadSwitch index fields s
  | .partLoadPort index fields => Sys2Proof.Machine.execPartLoadPort index fields s
  | .partLoadGeneral index fields => Sys2Proof.Machine.execPartLoadGeneral index fields s
  | .partRead table index position => Sys2Proof.Machine.execPartRead table index position s
  | .run target => Sys2Proof.Machine.execRun target s
  | .supervise => Sys2Proof.Machine.execSupervise s
  | .autonomous => Sys2Proof.Machine.execAutonomous s
  | .config => Sys2Proof.Machine.execConfig s
  | .clearLockout pump member => Sys2Proof.Machine.execClearLockout pump member s
  | .enableInterlock entry request => Sys2Proof.Machine.execEnableInterlock entry request s
  | .clearFlags kind object => Sys2Proof.Machine.execClearFlags kind object s
  | .latchCounter port => Sys2Proof.Machine.execLatchCounter port s
  | .portMode port mode settings => Sys2Proof.Machine.execPortMode port mode settings s
  | .insertError port => Sys2Proof.Machine.execInsertError port s
  | .portReset port => Sys2Proof.Machine.execPortReset port s
  | .planMark => Sys2Proof.Machine.execPlanMark s
  | .planSwap => Sys2Proof.Machine.execPlanSwap s
  | .transmitTake port => Sys2Proof.Machine.execTransmitTake port s
  | .transmissionComplete port => Sys2Proof.Machine.execTransmissionComplete port s
  | .staleTimerExpiry zone => Sys2Proof.Machine.execStaleTimerExpiry zone s
  | .silenceTimerExpiry house => Sys2Proof.Machine.execSilenceTimerExpiry house s
  | .stepTimerExpiry zone => Sys2Proof.Machine.execStepTimerExpiry zone s
  | .dwellExpiry pump => Sys2Proof.Machine.execDwellExpiry pump s
  | .startConfirmExpiry pump => Sys2Proof.Machine.execStartConfirmExpiry pump s
  | .stopConfirmExpiry pump => Sys2Proof.Machine.execStopConfirmExpiry pump s
  | .minRunExpiry pump => Sys2Proof.Machine.execMinRunExpiry pump s
  | .minOffExpiry pump => Sys2Proof.Machine.execMinOffExpiry pump s
  | .queueWaitEnd pump => Sys2Proof.Machine.execQueueWaitEnd pump s
  | .settleTimerExpiry zone => Sys2Proof.Machine.execSettleTimerExpiry zone s
  | .controlSilenceExpiry => Sys2Proof.Machine.execControlSilenceExpiry s
  | .fallbackExpiry => Sys2Proof.Machine.execFallbackExpiry s
  | .holdoffExpiry => Sys2Proof.Machine.execHoldoffExpiry s
  | .testTimerExpiry port => Sys2Proof.Machine.execTestTimerExpiry port s
  | .monotonicCountRise => Sys2Proof.Machine.execMonotonicCountRise s
  | .lineViolation port => Sys2Proof.Machine.execLineViolation port s
  | .checkerInSync port => Sys2Proof.Machine.execCheckerInSync port s
  | .patternBitError port => Sys2Proof.Machine.execPatternBitError port s
  | .checkerReturnToHunting port => Sys2Proof.Machine.execCheckerReturnToHunting port s

end Sys2Proof.Machine
end

