-- ==== Sys2Proof/Machine/Layout.lean ====
section
/-! DEFINITION. The management telegram that carries a command: its kind and its items, by the layouts of R175 and R176. No meaning uses it; statements and tests do. -/

namespace Sys2Proof.Machine

/-- A quantity of three bytes, most significant first (R172). -/
def be24 (w : BitVec 24) : List Byte :=
  [w.extractLsb' 16 8, w.extractLsb' 8 8, w.extractLsb' 0 8]

/-- A field entry of five bytes (R176). -/
def fieldBytes (e : FieldEntry) : List Byte := e.code :: be32 e.value

/-- A profile point of three bytes (R176). -/
def pointBytes (p : PointBody) : List Byte := p.speed :: be16 p.dwell

/-- An interlock body of nine bytes (R176). -/
def interlockBytes (b : InterlockBody) : List Byte :=
  [b.causeKind, b.causeObject] ++ be16 b.level ++ be16 b.band ++
    [b.targetKind, b.targetObject, b.action]

/-- A plan body: empty, or five bytes (R176). -/
def windowBytes : Option WindowBody → List Byte
  | none => []
  | some b => be16 b.start ++ be16 b.offset ++ [b.cap]

/-- The parameters of PORT_MODE; settings come with TEST alone (R176). -/
def portModeBytes (port mode : Byte) (b : TestBody) : List Byte :=
  [port, mode] ++
    (if mode = 1 then [b.pattern] ++ be24 b.user ++ [b.invert] ++ be16 b.duration else [])

/-- A PART_LOAD of field entries. -/
def loadItems (table index : Byte) (fields : List FieldEntry) : Byte × List Byte :=
  (kindPartLoad, table :: index :: fields.flatMap fieldBytes)

/-- The kind and the items of the management telegram that carries the command, for the commands that
one telegram to the part carries (R162). -/
def requestOf : Instr → Option (Byte × List Byte)
  | .timeSet time day => some (kindTimeSet, be24 time ++ be16 day)
  | .partLoadZone i l => some (loadItems 1 i l)
  | .partLoadHouse i l => some (loadItems 2 i l)
  | .partLoadPump i l => some (loadItems 3 i l)
  | .partLoadRunTime i l => some (loadItems 4 i l)
  | .partLoadProfile i l =>
    some (kindPartLoad, [5, i, byte l.length] ++ l.flatMap pointBytes)
  | .partLoadFeeder i l => some (loadItems 6 i l)
  | .partLoadInterlock i b => some (kindPartLoad, [7, i] ++ interlockBytes b)
  | .partLoadInput i l => some (loadItems 8 i l)
  | .partLoadPlanActive i b => some (kindPartLoad, [9, i] ++ windowBytes b)
  | .partLoadPlanNext i b => some (kindPartLoad, [10, i] ++ windowBytes b)
  | .partLoadRoute i l => some (loadItems 11 i l)
  | .partLoadSwitch i l => some (loadItems 12 i l)
  | .partLoadPort i l => some (loadItems 13 i l)
  | .partLoadGeneral i l => some (loadItems 14 i l)
  | .partRead table index position => some (kindPartRead, [table, index, position])
  | .run target => some (kindPartOrder, [1, target])
  | .supervise => some (kindPartOrder, [2])
  | .autonomous => some (kindPartOrder, [3])
  | .config => some (kindPartOrder, [4])
  | .restart => some (kindPartOrder, [5])
  | .clearLockout pump member => some (kindPartOrder, [6, pump, member])
  | .enableInterlock entry request => some (kindPartOrder, [7, entry, request])
  | .clearFlags kind object => some (kindPartOrder, [8, kind, object])
  | .latchCounter port => some (kindPartOrder, [9, port])
  | .portMode port mode b => some (kindPartOrder, 10 :: portModeBytes port mode b)
  | .insertError port => some (kindPartOrder, [11, port])
  | .portReset port => some (kindPartOrder, [12, port])
  | .planMark => some (kindPartOrder, [13])
  | .planSwap => some (kindPartOrder, [14])
  | .coldReset _ => none
  | .inputLevelChange _ _ => none
  | .filterExpiry _ => none
  | .secondEvent => none
  | .minuteEvent => none
  | .hourEvent => none
  | .dayEvent => none
  | .portUp _ => none
  | .lossOfCode _ => none
  | .telegramAbandoned _ _ => none
  | .receiveCompletion _ _ => none
  | .levelReport _ _ => none
  | .pumpReport _ _ => none
  | .start _ _ => none
  | .stop _ => none
  | .speed _ _ => none
  | .transmitTake _ => none
  | .transmissionComplete _ => none
  | .staleTimerExpiry _ => none
  | .silenceTimerExpiry _ => none
  | .stepTimerExpiry _ => none
  | .dwellExpiry _ => none
  | .startConfirmExpiry _ => none
  | .stopConfirmExpiry _ => none
  | .minRunExpiry _ => none
  | .minOffExpiry _ => none
  | .queueWaitEnd _ => none
  | .settleTimerExpiry _ => none
  | .controlSilenceExpiry => none
  | .fallbackExpiry => none
  | .holdoffExpiry => none
  | .testTimerExpiry _ => none
  | .monotonicCountRise => none
  | .lineViolation _ => none
  | .checkerInSync _ => none
  | .patternBitError _ => none
  | .checkerReturnToHunting _ => none

end Sys2Proof.Machine
end

