-- ==== Sys2Proof/Safety.lean ====
section
/-! DEFINITION. What a sound state of the part is, in the terms of its rules (banks, ports, counts, queue, lockout sets, start slots), what a step's notifications leave as it stands, how a request is answered, what a judgement of a cause, a flush, a placing of issues pending, a lockout member and an alert trigger leave, and the conditions of starts and stops as the rules list them. -/

namespace Sys2Proof.Machine

/-! ### Plan and clock (R109, R114, R115) -/

/-- A bank: at most 12 windows in strictly increasing order of start minute (R114). -/
def BankOk (bank : List Window) : Prop :=
  bank.length ≤ Config.bankWindows ∧ bank.Pairwise fun x y => x.start < y.start

/-- Both banks, and a NEXT bank that is LOADING or COMPLETE exactly when it holds a window (R115). -/
def PlanOk (p : Plan) : Prop :=
  BankOk p.active ∧ BankOk p.next ∧ (p.nextState = .empty ↔ p.next = [])

/-- The time of day and its tenths figure within their ranges (R109). -/
def ClockOk (c : Clock) : Prop := c.timeOfDay < Config.secondsPerDay ∧ c.tenths ≤ 9

/-! ### Counts (R7, R143, R161) -/

/-- The tracker's and the switch's counts are 0 to 65 535 (R7, R161). -/
def CountsOk (s : State) : Prop :=
  s.tracker.mismatch ≤ Config.countLimit ∧ s.tracker.unknown ≤ Config.countLimit ∧
    s.switch.rejected ≤ Config.countLimit ∧ s.switch.misdirected ≤ Config.countLimit ∧
      s.switch.unrouted ≤ Config.countLimit

/-! ### Ports (R138, R141, R143) -/

/-- The queues of a port within their capacities, and empty with nothing in transmission while the port
is not UP; its counts 0 to 65 535 (R138, R141, R143). -/
def PortOk (capacity : Nat) (r : PortRecord) : Prop :=
  r.own.length ≤ Config.ownCapacity ∧ r.pass.length ≤ capacity ∧
    (r.state ≠ .up → r.own = [] ∧ r.pass = [] ∧ r.sending = none) ∧
      r.live ≤ Config.countLimit ∧ r.holding ≤ Config.countLimit

/-- Every port. -/
def PortsOk (s : State) : Prop := ∀ p, PortOk (passCapacity p) (s.port p)

/-! ### Start queue (R70, R83) -/

/-- The queue in order of priority, without two entries for a pump, within its capacity, its fields in
their ranges, and a pump QUEUED exactly when the queue holds an entry for it (R70); in CONFIG the queue
is empty (R80). -/
def QueueOk (s : State) : Prop :=
  s.queue.length ≤ Config.queueCapacity ∧
    (s.queue.Pairwise fun x y => y.priority ≤ x.priority) ∧
      (s.queue.map QueueEntry.pump).Nodup ∧
        (∀ e ∈ s.queue, e.priority ≤ 3 ∧ e.bypass ≤ Config.bypassCeiling) ∧
          (∀ p : PumpId, s.pumps[p].state = .queued ↔ p ∈ s.queue.map QueueEntry.pump) ∧
            (s.authority.mode = .config → s.queue = [])

/-- Every zone's demand priority is 0 to 3 (R1). -/
def DemandPrioritiesOk (s : State) : Prop := ∀ z : ZoneId, s.zones[z].demandPriority ≤ 3

/-! ### Lockout sets (R41) -/

/-- A pump whose lockout set is not empty is STOPPING or LOCKED, and a LOCKED pump's set is not empty;
only an entry the set holds can be tagged LATCHED (R41). -/
def LockoutOk (x : Pump) : Prop :=
  (x.lockout.isEmpty = false → x.state = .stopping ∨ x.state = .locked) ∧
    (x.state = .locked → x.lockout.isEmpty = false) ∧
      x.lockout.latched &&& ~~~x.lockout.entries = 0

/-- Every pump. -/
def LockoutsOk (s : State) : Prop := ∀ p : PumpId, LockoutOk s.pumps[p]

/-! ### What the notifications of a step leave as it stands -/

/-- A zone without what a notification may change: its slope base and the fields of R20 and R85. -/
def Zone.kept (z : Zone) : Zone :=
  { z with
    slopeBase := none, trend := 0, forecast := none, call := 0, stepTimer := .idle
    settleTimer := .idle }

/-- A pump without what a notification may change: what is left is its configuration, its running time,
its report and whether its trip has been seen. -/
def Pump.kept (x : Pump) : Pump :=
  { x with
    state := .unknown, lockout := {}, inhibit := 0, stopPending := false, issuePending := none
    awaited := none, position := none, confirmTimer := .idle, dwellTimer := .idle
    resendDone := false, minRunTimer := .idle, minOffTimer := .idle, history := [] }

/-- An interlock entry without its cause present field. -/
def Interlock.kept (x : Interlock) : Interlock := { x with present := false }

/-- A port without the part's own queue. -/
def PortRecord.kept (r : PortRecord) : PortRecord := { r with own := [] }

/-- The state without what the notifications of a step may change: everything outside the dynamic
fields of zones, pumps and entries, the start queue, the event table and the part's own queues. -/
def State.kept (s : State) : State :=
  { s with
    zones := tabulate fun z => s.zones[z].kept
    pumps := tabulate fun p => s.pumps[p].kept
    interlocks := tabulate fun e => s.interlocks[e].kept
    portC := s.portC.kept
    portF1 := s.portF1.kept
    portF2 := s.portF2.kept
    queue := []
    events := {}
    serial := 0
    choices := [] }

/-- The same without port C, where a reply is placed: what a request leaves, once its own effects are
taken away. -/
def State.settled (s : State) : State := { s.kept with portC := {} }

/-! ### How a request is answered (R141, R162) -/

/-- Port C once a reply is offered to it: the reply is at the tail of its reply queue, or it is counted
DROPPED where the port does not take it. -/
def PortRecord.withReply (c : PortRecord) (reply : OwnTelegram) : PortRecord :=
  if c.takesOwn then { c with own := c.own ++ [reply] } else c.count .dropped

/-- The reply to a request, from the part to the control station that the part held when it took it. -/
def State.replyTo (s : State) (kind : Byte) (a : Answer) : OwnTelegram :=
  replyTelegram s.switch.partAddress s.switch.controlAddress kind a

/-- Port C of `t` holds the reply to a request taken in `s`, `c` being the port as the effects of the
request leave it; only alerts may follow the reply, and only while the port takes them. -/
def AnsweredOn (c : PortRecord) (s t : State) (kind : Byte) (a : Answer) : Prop :=
  ∃ alerts : List OwnTelegram, (∀ x ∈ alerts, x.kind = .alert) ∧
    ((c.withReply (s.replyTo kind a)).takesOwn = false → alerts = []) ∧
      t.portC = { c.withReply (s.replyTo kind a) with
        own := (c.withReply (s.replyTo kind a)).own ++ alerts }

/-- The same for a request that leaves port C as it stands. -/
def Answered (s t : State) (kind : Byte) (a : Answer) : Prop := AnsweredOn s.portC s t kind a

/-- The state once a request has been answered with nothing else done. -/
def State.answering (s : State) (kind : Byte) (a : Answer) : State :=
  { s with portC := s.portC.withReply (s.replyTo kind a) }

/-- The state once a control telegram has been heard (R130). -/
def State.heard (s : State) : State := (Work.of s).controlHeard.toState

/-- The comm state that a house's record and its route give it (R18). -/
def State.commFor (s : State) (r : House) : CommState :=
  if r.configured then
    match r.address with
    | none => .unreachable
    | some a =>
      match s.switch.route[a.toNat] with
      | none => .unreachable
      | some f =>
        if (s.port f.port).state = .up then
          if r.silenceTimer = .idle then .silent else .online
        else .unreachable
  else .silent

/-- The state once port `p` has received a telegram: its receiver hunts again (R140). -/
def State.receivedAt (s : State) (p : Port) : State :=
  ((Work.of s).setPort p ((s.port p).inPhase .hunting)).toState

/-! ### What a judgement of a cause leaves (R96, R97) -/

/-- The entry's bits in a pump's three sets: inhibit set, lockout set, LATCHED tags. -/
def Pump.bitsOf (x : Pump) (e : EntryId) : Bool × Bool × Bool :=
  (x.inhibit.getLsbD e.val, x.lockout.entries.getLsbD e.val, x.lockout.latched.getLsbD e.val)

/-- What it leaves when an enabled entry's cause is found present or absent: the field follows; a
start adds the entry to the set that its action names, LATCHED or FOLLOW, of every pump its target
covers, a member already there keeping its tag; an end takes its FOLLOW and inhibit members from every
pump; and what the field already says changes no set. -/
def CauseTaken (s t : State) (e : EntryId) (c : InterlockContent) (found : Bool) : Prop :=
  t.interlocks[e] = { s.interlocks[e] with present := found } ∧
    ∀ p : PumpId,
      (found = s.interlocks[e].present → t.pumps[p].bitsOf e = s.pumps[p].bitsOf e) ∧
      (found = true → s.interlocks[e].present = false →
        (s.covers c.target p = false → t.pumps[p].bitsOf e = s.pumps[p].bitsOf e) ∧
        (s.covers c.target p = true →
          (c.action = .inhibit → t.pumps[p].bitsOf e =
            (true, (s.pumps[p].bitsOf e).2)) ∧
          (c.action ≠ .inhibit → t.pumps[p].bitsOf e =
            (s.pumps[p].inhibit.getLsbD e.val, true,
              if s.pumps[p].lockout.entries.getLsbD e.val then
                s.pumps[p].lockout.latched.getLsbD e.val
              else decide (c.action = .tripLatch))))) ∧
      (found = false → s.interlocks[e].present = true →
        (s.pumps[p].lockout.hasFollow e = false →
          t.pumps[p].bitsOf e = (false, (s.pumps[p].bitsOf e).2)) ∧
        (s.pumps[p].lockout.hasFollow e = true → t.pumps[p].bitsOf e = (false, false, false)))

/-- The port holds a reply that holds back an effect on port C (R162). -/
def PortRecord.holdsBack (r : PortRecord) : Bool :=
  (r.own.any fun t => match t.kind with
    | .reply (some _) => true
    | _ => false) ||
    match r.sending with
    | some (.own t) =>
      (match t.kind with
        | .reply (some _) => true
        | _ => false)
    | _ => false

/-- The bytes of an item of a PUMP_SET (R175). -/
def SetItem.bytes (i : SetItem) : List Byte := [i.index, i.command, i.speed, i.priority]

/-- The bytes of a PUMP_SET from the control station to a station (R175). -/
def State.settingBytes (s : State) (station : Addr) (items : List SetItem) : List Byte :=
  Telegram.bytes
    { destination := station, source := s.switch.controlAddress, kind := kindPumpSet,
      items := items.flatMap SetItem.bytes }

/-- A confirm or dwell timer that starts in `s`: running while the pump's house is ONLINE, else paused
with its full duration (R62). -/
def State.pausableFor (s : State) (p : PumpId) (tenths : Nat) : PausableTimer :=
  if s.houses[houseOf p].comm = .online then .running s.clock.mono tenths else .paused tenths

/-! ### The conditions of starts and stops, as their rules list them -/

/-- The conditions of R79 but the budget: the pump is QUEUED, its house ONLINE, its inhibit set empty,
its min off timer idle, its starts fewer than the limit, and its delivery zone's settle timer idle
with no other pump STARTING into the zone. -/
def State.eligible (s : State) (p : PumpId) : Prop :=
  s.pumps[p].state = .queued ∧ s.houses[houseOf p].comm = .online ∧ s.pumps[p].inhibit = 0 ∧
    s.pumps[p].minOffTimer = .idle ∧ s.pumps[p].history.length < s.pumps[p].startsLimit ∧
      s.zones[s.pumps[p].deliveryZone].settleTimer = .idle ∧
        ∀ q : PumpId, q ≠ p → s.pumps[q].configured = true →
          s.pumps[q].deliveryZone = s.pumps[p].deliveryZone → s.pumps[q].state ≠ .starting

/-- The budget condition of R37: the committed load of the feeder and the start charge of the pump
stay within the effective limit. -/
def State.budgetHolds (s : State) (p : PumpId) : Prop :=
  s.committed s.pumps[p].feeder + s.pumps[p].startCharge ≤ s.effectiveLimit s.pumps[p].feeder

/-- A configured pump delivers into the zone. -/
def State.supplies (s : State) (z : ZoneId) (p : PumpId) : Bool :=
  s.pumps[p].configured && s.pumps[p].deliveryZone == z

/-- A start candidate of the zone (R31): a supplying pump that is OFF, reported available, of an ONLINE
house and without inhibit. -/
def State.demandCandidate (s : State) (z : ZoneId) (p : PumpId) : Prop :=
  s.supplies z p = true ∧ s.pumps[p].state = .off ∧
    (∃ r, s.pumps[p].report = some r ∧ r.available = true) ∧
      s.houses[houseOf p].comm = .online ∧ s.pumps[p].inhibit = 0

/-- A pump that a surplus may stop (R32): supplying, RUNNING, without a stop pending. -/
def State.sheds (s : State) (z : ZoneId) (p : PumpId) : Prop :=
  s.supplies z p = true ∧ s.pumps[p].state = .running ∧ s.pumps[p].stopPending = false

/-- A pump whose pending stop begins when the zone's settle timer is idle (R55): supplying, RUNNING with
a stop pending, its min run timer idle, and no other pump STARTING or STOPPING into the zone. -/
def State.stopPasses (s : State) (z : ZoneId) (p : PumpId) : Prop :=
  s.supplies z p = true ∧ s.pumps[p].state = .running ∧ s.pumps[p].stopPending = true ∧
    s.pumps[p].minRunTimer = .idle ∧
      ∀ q : PumpId, q ≠ p → s.supplies z q = true →
        s.pumps[q].state ≠ .starting ∧ s.pumps[q].state ≠ .stopping

/-- How many records the table of a code holds (R176, R177). -/
def tableSize (code : Nat) : Nat :=
  match code with
  | 1 => 16
  | 2 => 12
  | 3 => 48
  | 4 => 48
  | 5 => 8
  | 6 => 4
  | 7 => 32
  | 8 => 4
  | 11 => 64
  | 13 => 3
  | _ => 1

/-- A generator after it has sent so many bits. -/
def generatorAfter (g : Generator) (t : TestSettings) : Nat → Generator
  | 0 => g
  | n + 1 => (generatorAfter g t n).advance t

/-- A checker after it has taken the first so many bits that a generator sends, and what it has found
in them. -/
def checkerAfter (g : Generator) (c : Checker) (t : TestSettings) : Nat → Checker × List Finding
  | 0 => (c, [])
  | n + 1 =>
    let before := checkerAfter g c t n
    let now := before.1.take t ((generatorAfter g t n).sent t)
    (now.1, before.2 ++ now.2)

/-- A command telegram for a pump, placed by R44. -/
def State.commandTelegram (s : State) (p : PumpId) (station : Addr) (c : PumpCommand) :
    OwnTelegram :=
  { kind := .command p s.serial, bytes := s.commandBytes station p c }

/-- What R44 gives a command issued for a pump in `s`: in `t` its telegram stands behind what the
port's command queue held, and is the awaited telegram, for the position the profile stands at; or it
is the issue pending. -/
def IssuedIn (s t : State) (p : PumpId) (c : PumpCommand) : Prop :=
  match s.placement p with
  | some (port, station) =>
    (∃ l, (t.port port).own = (s.port port).own ++ s.commandTelegram p station c :: l) ∧
      t.pumps[p].awaited =
        some { serial := s.serial, command := c, step := t.pumps[p].stepNow } ∧
        t.pumps[p].issuePending = none
  | none => t.pumps[p].issuePending = some c

/-! ### What a flush leaves (R138) -/

/-- The part's own telegrams that a flush removes, the one in transmission first. -/
def PortRecord.ownTelegrams (r : PortRecord) : List OwnTelegram :=
  match r.sending with
  | some (.own t) => t :: r.own
  | _ => r.own

/-- How many DROPPED events a flush counts: the pass telegrams and the replies it removes. -/
def PortRecord.flushDrops (r : PortRecord) : Nat :=
  r.pass.length +
    (match r.sending with
      | some (.pass _) => 1
      | _ => 0) +
    (r.ownTelegrams.filter fun t => match t.kind with
      | .reply _ => true
      | _ => false).length

/-- The live error count once a flush has counted what it drops (R143). -/
def PortRecord.liveFlushed (r : PortRecord) : Nat :=
  if r.counterClass = .dropped ∨ r.counterClass = .allErrors then min 65535 (r.live + r.flushDrops)
  else r.live

/-- A pump once telegrams are discarded: its awaited telegram among them becomes its issue pending,
unless a newer one stands (R45). -/
def Pump.discarding (x : Pump) (p : PumpId) (l : List OwnTelegram) : Pump :=
  match x.awaited, x.issuePending with
  | some a, none =>
    if l.any fun t => t.kind = .command p a.serial then
      { x with issuePending := some a.command, awaited := none }
    else x
  | _, _ => x

/-- A pump's confirm and dwell timers paused, each with its remaining time (R62). -/
def Pump.paused (x : Pump) (now : Count) : Pump :=
  { x with confirmTimer := x.confirmTimer.pause now, dwellTimer := x.dwellTimer.pause now }

/-- A pump's paused confirm and dwell timers running again from their remaining time (R62). -/
def Pump.resumed (x : Pump) (now : Count) : Pump :=
  { x with confirmTimer := x.confirmTimer.resume now, dwellTimer := x.dwellTimer.resume now }

/-- A pump without its confirm and dwell timers. -/
def Pump.untimed (x : Pump) : Pump := { x with confirmTimer := .idle, dwellTimer := .idle }

/-- A pump without its awaited telegram and its issue pending. -/
def Pump.unissued (x : Pump) : Pump := { x with awaited := none, issuePending := none }

/-- No enabled entry watches a house's comm state. -/
def State.unwatched (s : State) : Prop :=
  ∀ (e : EntryId) (c : InterlockContent), s.interlocks[e].content = some c →
    s.interlocks[e].enabled = true → ∀ h : HouseId, c.cause ≠ .houseNotOnline h

/-- What a flush of a port in `s` leaves in `t` (R138): nothing to transmit; on port C an outstanding
alert that it removed pending again, its holdoff timer not started (R170); and, where no entry watches a
house and the demand unit takes no part, of each pump that the port serves its discarded awaited telegram
pending (R45) and its timers paused if its house was ONLINE (R62). -/
def FlushTaken (s t : State) (p : Port) : Prop :=
  (t.port p).own = [] ∧ (t.port p).pass = [] ∧ (t.port p).sending = none ∧
    (p = .c → t.events.holdoff = s.events.holdoff ∧
      ((∃ x ∈ s.portC.ownTelegrams, x.kind = .alert) →
        t.events.alertOutstanding = false ∧ t.events.alertPending = true) ∧
      ((∀ x ∈ s.portC.ownTelegrams, x.kind ≠ .alert) →
        t.events.alertOutstanding = s.events.alertOutstanding)) ∧
    (s.unwatched → s.authority.mode ≠ .autonomous →
      ∀ q : PumpId, s.housePort (houseOf q) = some p →
        t.pumps[q].untimed = (s.pumps[q].discarding q (s.port p).ownTelegrams).untimed ∧
          (s.houses[houseOf q].comm = .online →
            t.pumps[q] = (s.pumps[q].discarding q (s.port p).ownTelegrams).paused s.clock.mono))

/-! ### What a placing of issues pending leaves (R45) -/

/-- The pumps that hold an issue pending, served by a port, their house ONLINE, in ascending number. -/
def State.pendingFor (s : State) (port : Port) : List PumpId :=
  allPumps.filter fun q => s.pumps[q].issuePending.isSome && s.online (houseOf q) &&
    s.housePort (houseOf q) == some port

/-- What the trying of the issues pending that a port serves leaves in `t`: the first of them, as many
as the command queue of an UP port has room for, stand behind what the queue held and are awaited; the
others stay pending (R45). -/
def PendingPlaced (s t : State) (port : Port) : Prop :=
  ∀ placed : List PumpId,
    placed = (s.pendingFor port).take
      (if (s.port port).state = .up then Config.ownCapacity - (s.port port).own.length else 0) →
    (∃ l : List OwnTelegram, (t.port port).own = (s.port port).own ++ l ∧
      l.map OwnTelegram.kind =
        placed.zipIdx.map fun x => OwnKind.command x.1 (s.serial + x.2)) ∧
    ∀ q : PumpId, s.housePort (houseOf q) = some port →
      (q ∉ placed → t.pumps[q].issuePending = s.pumps[q].issuePending ∧
        t.pumps[q].awaited = s.pumps[q].awaited) ∧
      (q ∈ placed → t.pumps[q].issuePending = none ∧
        t.pumps[q].awaited = s.pumps[q].issuePending.map fun c =>
          { serial := s.serial + placed.idxOf q, command := c, step := s.pumps[q].stepNow })

/-! ### What a lockout member does to its pump (R66, R67) -/

/-- STOP is the pump's last telegram: pending, or awaited with nothing pending. -/
def Pump.stopIssued (x : Pump) : Prop :=
  x.issuePending = some .stop ∨
    (x.issuePending = none ∧ ∃ a, x.awaited = some a ∧ a.command = .stop)

/-- What a lockout member that joins the set of a pump of `s` makes of the pump in `t`, by its state
(R66). -/
def TakenOutOfService (s t : State) (p : PumpId) : Prop :=
  (s.pumps[p].state = .queued → ∀ e ∈ t.queue, e.pump ≠ p) ∧
    (s.pumps[p].state = .starting ∨ s.pumps[p].state = .running ∨
        (s.pumps[p].state = .stopping ∧ s.pumps[p].lockout.isEmpty = true) →
      t.pumps[p].state = .stopping ∧ t.pumps[p].position = some .stop ∧
        t.pumps[p].stopPending = false ∧ t.pumps[p].resendDone = false ∧
          t.pumps[p].stopIssued) ∧
    (s.pumps[p].state = .stopping → s.pumps[p].lockout.isEmpty = false →
      t.pumps[p].state = .stopping ∧ t.pumps[p].position = s.pumps[p].position) ∧
    (s.pumps[p].state ≠ .starting → s.pumps[p].state ≠ .running → s.pumps[p].state ≠ .stopping →
      t.pumps[p].state = .locked)

/-- The state that a LOCKED pump whose set becomes empty takes from its last report (R67). -/
def Pump.stateReported (x : Pump) : PumpState :=
  match x.report with
  | none => .unavailable
  | some r =>
    if r.available = true ∧ r.tripped = false then
      if r.running then .running else .off
    else .unavailable

/-! ### What an alert trigger leaves (R169, R170) -/

/-- What an alert trigger in `s` leaves in `t`, `c` being port C before the offer: with no alert
outstanding, the holdoff timer idle and room in the reply queue of an UP port the alert stands at its
tail and is outstanding; else it is pending. -/
def AlertTriggered (c : PortRecord) (s t : State) : Prop :=
  (s.events.alertOutstanding = false → s.events.holdoff = .idle → c.takesOwn = true →
    t.portC = { c with own := c.own ++ [⟨.alert, t.alertBytes⟩] } ∧
      t.events.alertPending = false ∧ t.events.alertOutstanding = true) ∧
    (s.events.alertOutstanding = true ∨ s.events.holdoff ≠ .idle ∨ c.takesOwn = false →
      t.portC = c ∧ t.events.alertPending = true ∧
        t.events.alertOutstanding = s.events.alertOutstanding)

end Sys2Proof.Machine
end

