-- ==== Sys2Proof/WellFormed.lean ====
section
/-! DEFINITION. Which commands the lines can bring: the lengths that R172 to R177 give a telegram's items. exec has a meaning for every command; this says which of them a telegram can carry. -/

namespace Sys2Proof

/-- A report's source is a station (63 is the broadcast address, R153). -/
def stationSource (a : Addr) : Bool := a != Config.broadcast

/-- A body of field entries fits the 54 item bytes after table and index (R172, R176). -/
def fieldsFit (l : List FieldEntry) : Bool := l.length ≤ 10

/-- The command is one that the lines, pins and timers can bring. -/
def Instr.wellFormed : Instr → Bool
  | .receiveCompletion _ bytes => bytes.length ≤ 62
  | .levelReport src items => stationSource src && items.length ≤ 14
  | .pumpReport src items => stationSource src && items.length ≤ 18
  | .partLoadZone _ l => fieldsFit l
  | .partLoadHouse _ l => fieldsFit l
  | .partLoadPump _ l => fieldsFit l
  | .partLoadRunTime _ l => fieldsFit l
  | .partLoadProfile _ l => l.length ≤ 17
  | .partLoadFeeder _ l => fieldsFit l
  | .partLoadInput _ l => fieldsFit l
  | .partLoadRoute _ l => fieldsFit l
  | .partLoadSwitch _ l => fieldsFit l
  | .partLoadPort _ l => fieldsFit l
  | .partLoadGeneral _ l => fieldsFit l
  | .coldReset _ => true
  | .restart => true
  | .inputLevelChange _ _ => true
  | .filterExpiry _ => true
  | .secondEvent => true
  | .minuteEvent => true
  | .hourEvent => true
  | .dayEvent => true
  | .portUp _ => true
  | .lossOfCode _ => true
  | .telegramAbandoned _ _ => true
  | .timeSet _ _ => true
  | .start _ _ => true
  | .stop _ => true
  | .speed _ _ => true
  | .partLoadInterlock _ _ => true
  | .partLoadPlanActive _ _ => true
  | .partLoadPlanNext _ _ => true
  | .partRead _ _ _ => true
  | .run _ => true
  | .supervise => true
  | .autonomous => true
  | .config => true
  | .clearLockout _ _ => true
  | .enableInterlock _ _ => true
  | .clearFlags _ _ => true
  | .latchCounter _ => true
  | .portMode _ _ _ => true
  | .insertError _ => true
  | .portReset _ => true
  | .planMark => true
  | .planSwap => true
  | .transmitTake _ => true
  | .transmissionComplete _ => true
  | .staleTimerExpiry _ => true
  | .silenceTimerExpiry _ => true
  | .stepTimerExpiry _ => true
  | .dwellExpiry _ => true
  | .startConfirmExpiry _ => true
  | .stopConfirmExpiry _ => true
  | .minRunExpiry _ => true
  | .minOffExpiry _ => true
  | .queueWaitEnd _ => true
  | .settleTimerExpiry _ => true
  | .controlSilenceExpiry => true
  | .fallbackExpiry => true
  | .holdoffExpiry => true
  | .testTimerExpiry _ => true
  | .monotonicCountRise => true
  | .lineViolation _ => true
  | .checkerInSync _ => true
  | .patternBitError _ => true
  | .checkerReturnToHunting _ => true

end Sys2Proof
end

