-- ==== Sys2Proof/Certificates/Slice0/Obligations.lean ====
section
/-! DEFINITION. The statements about the part: what each command does and leaves alone, family by family, the arithmetic of the rules, and the properties that every step keeps. Each docstring names the rules it formalises. -/

open Sys2Proof Sys2Proof.Machine

/-! ### The queue of commands and the resets -/

/-- One step takes the command at the front and runs it on the state without it; an empty queue
idles. The queue is the model's (notes/assumptions/1.md). -/
def Obligations.StepTakesFrontCommand : Prop :=
  (∀ (c : Instr) (s : State), step (s.withFront c) = exec c s) ∧
    (∀ (c : Instr) (rest : List Instr) (s : State), s.pending = c :: rest →
      step s = exec c { s with pending := rest }) ∧
      ∀ s : State, s.pending = [] → step s = .next s

/-- No command stops the part, and none touches the commands that wait behind it. That a command the
state has no use for does nothing is the model's choice (notes/assumptions/13.md). -/
def Obligations.CommandsCompleteAndLeaveQueue : Prop :=
  ∀ (c : Instr) (s : State), ∃ t, exec c s = .next t ∧ t.pending = s.pending

/-- What a cold reset leaves (R149): the values of R1, R16, R38, R77, R91, R106, R109, R114, R121,
R135, R150, R164 and R167, whatever the part held; straps of 0 and 63 give part address 1 and 62. The
pins and the commands waiting are not the part's to reset. That pins, straps as an operand and waiting
commands stand outside the reset is the model's choice (notes/assumptions/4.md). -/
def Obligations.ColdResetLeaves : Prop :=
  ∀ (straps : Addr) (s : State), ∃ t, exec (.coldReset straps) s = .next t ∧
    (∀ z : ZoneId, t.zones[z] =
      { inUse := false, reporter := none, startLevel := 0, stopLevel := 0, staleLimit := 300,
        smoothing := 2, horizon := 15, stepDelay := 120, settleTime := 60, demandPriority := 1,
        state := .unset, level := none, quality := none, lastReading := none, slopeBase := none,
        staleTimer := .idle, trend := 0, forecast := none, call := 0, stepTimer := .idle,
        settleTimer := .idle }) ∧
    (∀ h : HouseId, t.houses[h] =
      { configured := false, address := none, silenceLimit := 120, lastReport := none,
        silenceTimer := .idle, comm := .silent }) ∧
    (∀ p : PumpId, t.pumps[p] =
      { configured := false, sourceZone := none, deliveryZone := 0, feeder := 0, ratedLoad := 1,
        inrush := 24, startProfile := none, stopProfile := none, speedTrim := 32, minSpeed := 0,
        maxSpeed := 100, minRun := 60, minOff := 120, startsLimit := 6, startConfirmLimit := 60,
        stopConfirmLimit := 60, state := .unknown, runTime := 0, report := none }) ∧
    (∀ i : ProfileId, t.profiles[i] = []) ∧ (∀ f : FeederId, t.feeders[f] = { limit := 0 }) ∧
    (∀ e : EntryId, t.interlocks[e] = { enabled := false, content := none, present := false }) ∧
    (∀ l : LineId, t.inputs[l] =
      { activeLevel := .high, filterTime := 100, lineLevel := s.inputs[l].lineLevel,
        accepted := none, filterTimer := some 100 }) ∧
    t.tracker = { mismatch := 0, unknown := 0 } ∧ t.queue = [] ∧
    t.clock = { timeOfDay := 0, tenths := 0, dayCount := 0, timeValid := false, mono := 0 } ∧
    t.plan = { active := [], next := [], nextState := .empty, inForce := none } ∧
    t.general =
      { waitLimit := 300, bypassLimit := 4, fallbackEnabled := true, controlSilenceLimit := 60,
        fallbackDelay := 120, alertHoldoff := 5, enableSet := 0xFFFF } ∧
    t.authority = { mode := .config, silenceTimer := .idle, present := false, fallbackTimer := .idle } ∧
    t.events = { latched := [], alertPending := false, alertOutstanding := false, holdoff := .idle } ∧
    t.switch.straps = straps ∧
    t.switch.partAddress = (if straps = 0 then 1 else if straps = 63 then 62 else straps) ∧
    t.switch.controlAddress = 0 ∧ (∀ i : Fin 64, t.switch.route[i] = none) ∧
    t.switch.rejected = 0 ∧ t.switch.misdirected = 0 ∧ t.switch.unrouted = 0 ∧
    (∀ q : Port, (t.port q).rate = .r19200 ∧ (t.port q).lossCount = 64 ∧
      (t.port q).counterClass = .checkFail ∧ (t.port q).latchMode = .auto ∧
      (t.port q).state = .down ∧ (t.port q).live = 0 ∧ (t.port q).holding = 0 ∧
      (t.port q).own = [] ∧ (t.port q).pass = [] ∧ (t.port q).sending = none) ∧
    t.pending = s.pending

/-- What a warm restart leaves (R133, R8, R18, R40, R46, R104, R108): CONFIG with the fallback timer
idle and the silence timer running on, an empty queue, every zone UNSET, every house unheard with the
comm state that its port gives it, pumps UNKNOWN or LOCKED with their LATCHED members and every other
dynamic field cleared, every line unaccepted, the cause present fields afresh, the field ports' own
queues emptied with the rest of the ports as it was, and the window in force selected; the tables,
plan banks, running times, reports, event table, counts and parameters stay. It is answered DONE. A
filter timer that a restart starts waits for its FILTER_EXPIRY whatever its length
(notes/assumptions/10.md). -/
def Obligations.RestartLeaves : Prop :=
  ∀ s : State, ∃ t, exec .restart s = .next t ∧
    t.authority = { s.authority with mode := .config, fallbackTimer := .idle } ∧ t.queue = [] ∧
    (∀ z : ZoneId, t.zones[z] =
      { s.zones[z] with
        state := .unset, level := none, quality := none, lastReading := none, slopeBase := none
        staleTimer := .idle, trend := 0, forecast := none, call := 0, stepTimer := .idle
        settleTimer := .idle }) ∧
    (∀ h : HouseId, t.houses[h] =
      { s.houses[h] with
        lastReport := none, silenceTimer := .idle
        comm := s.commFor { s.houses[h] with silenceTimer := .idle } }) ∧
    (∀ p : PumpId, t.pumps[p] =
      { s.pumps[p] with
        state :=
          if s.pumps[p].lockout.entries &&& s.pumps[p].lockout.latched = 0 ∧
              s.pumps[p].lockout.failToStart = false ∧ s.pumps[p].lockout.failToStop = false ∧
                s.pumps[p].lockout.outstationTrip = false then .unknown else .locked
        lockout := { s.pumps[p].lockout with
          entries := s.pumps[p].lockout.entries &&& s.pumps[p].lockout.latched
          latched := s.pumps[p].lockout.entries &&& s.pumps[p].lockout.latched }
        inhibit := 0, stopPending := false, issuePending := none, awaited := none, position := none
        confirmTimer := .idle, dwellTimer := .idle, resendDone := false, minRunTimer := .idle
        minOffTimer := .idle, history := [] }) ∧
    (∀ l : LineId, t.inputs[l] =
      { s.inputs[l] with accepted := none, filterTimer := some s.inputs[l].filterTime }) ∧
    t.portF1 = { s.portF1 with own := [] } ∧ t.portF2 = { s.portF2 with own := [] } ∧
    t.profiles = s.profiles ∧ t.feeders = s.feeders ∧ t.clock = s.clock ∧
    t.plan = { s.plan with inForce := s.selected } ∧
    t.general = s.general ∧ t.events = s.events ∧ t.switch = s.switch ∧ t.tracker = s.tracker ∧
    (∀ e : EntryId, t.interlocks[e] =
      { s.interlocks[e] with
        present := s.interlocks[e].enabled && match s.interlocks[e].content with
          | none => false
          | some c => match c.cause with
            | .zoneAtOrBelow _ _ _ => false
            | .zoneAtOrAbove _ _ _ => false
            | _ => true }) ∧
    Answered s t kindPartOrder (Answer.of .done)

/-! ### Pins (R106 to R108, R96, R97) -/

/-- A change of a line's level on its pin (R107): back at the accepted level the pulse is discarded,
with a filter time of 0 the level is accepted, else the filter timer starts; nothing outside the line
and what an accepted level causes changes. The expiry of a filter timer (R107): the line level is
accepted, and where that changes the line's activity, every enabled entry that watches the line has
its cause started or ended (R95 to R97); a line whose filter timer is idle is left as it is. The steps
of the filter are no commands (notes/assumptions/10.md), and an expiry without a timer does nothing by
the model's choice (notes/assumptions/13.md). -/
def Obligations.InputLinesFilterLevels : Prop :=
  (∀ (line : LineId) (level : PinLevel) (s : State),
     ∃ t, exec (.inputLevelChange line level) s = .next t ∧
       t.inputs[line] =
         (if s.inputs[line].lineLevel = level then s.inputs[line]
          else if s.inputs[line].accepted = some level then
            { s.inputs[line] with lineLevel := level, filterTimer := none }
          else if s.inputs[line].filterTime = 0 then
            { s.inputs[line] with lineLevel := level, accepted := some level, filterTimer := none }
          else { s.inputs[line] with
            lineLevel := level, filterTimer := some s.inputs[line].filterTime }) ∧
       (∀ l, l ≠ line → t.inputs[l] = s.inputs[l]) ∧
       t.kept = ({ s with inputs := t.inputs } : State).kept ∧
       (t.inputs[line].isActive = s.inputs[line].isActive → t = { s with inputs := t.inputs }) ∧
       (t.inputs[line].isActive ≠ s.inputs[line].isActive → ∀ (e : EntryId) (c : InterlockContent),
         s.interlocks[e].content = some c → s.interlocks[e].enabled = true →
           c.cause = .inputActive line → CauseTaken s t e c t.inputs[line].isActive)) ∧
  (∀ (line : LineId) (s : State),
     (s.inputs[line].filterTimer = none → exec (.filterExpiry line) s = .next s) ∧
     (s.inputs[line].filterTimer ≠ none →
       ∃ t, exec (.filterExpiry line) s = .next t ∧
         t.inputs[line] =
           { s.inputs[line] with
             accepted := some s.inputs[line].lineLevel, filterTimer := none } ∧
         (∀ l, l ≠ line → t.inputs[l] = s.inputs[l]) ∧
         t.kept = ({ s with inputs := t.inputs } : State).kept ∧
         (t.inputs[line].isActive = s.inputs[line].isActive → t = { s with inputs := t.inputs }) ∧
         (t.inputs[line].isActive ≠ s.inputs[line].isActive → ∀ (e : EntryId) (c : InterlockContent),
           s.interlocks[e].content = some c → s.interlocks[e].enabled = true →
             c.cause = .inputActive line → CauseTaken s t e c t.inputs[line].isActive)))

/-! ### Time (R64, R65, R109 to R111, R116, R118, R144) -/

/-- The monotonic count rises by one modulo 2^32 and the tenths figure with it; from 9 it returns to 0
and a second falls due (R109 to R111; notes/assumptions/5.md for the second that falls due). An hour
event changes only what is still due (R110). A timer expires when the monotonic count reaches its
start plus its duration, across the return of the count to 0, and not before (R111). The events that
fall due are the model's bookkeeping (notes/assumptions/5.md). -/
def Obligations.CountRisesAndTimersExpire : Prop :=
  (∀ s : State, exec .monotonicCountRise s = .next { s with clock :=
     if s.clock.tenths < 9 then
       { s.clock with mono := s.clock.mono + 1, tenths := s.clock.tenths + 1 }
     else
       { s.clock with
         mono := s.clock.mono + 1, tenths := 0, secondsDue := s.clock.secondsDue + 1 } }) ∧
  (∀ s : State, exec .hourEvent s =
     .next { s with clock := { s.clock with hoursDue := s.clock.hoursDue - 1 } }) ∧
  (∀ (start : Count) (d n : Nat), d < 4294967296 → n < 4294967296 →
     ((Timer.running start d).due (start + BitVec.ofNat 32 n) = true ↔ d ≤ n))

/-- A second event: the time of day rises by a second modulo a day, and a minute, an hour and a day
event fall due as its figures return to 0 (R110); each configured pump reported running has its
running time raised (R65), and each port in AUTO latch mode moves its live count (R144); nothing else
changes, and an event that is not due does nothing. That an event acts when an advance has made it
due, and only then, is the model's choice (notes/assumptions/5.md). -/
def Obligations.SecondEventTaken : Prop :=
  ∀ s : State, (s.clock.secondsDue = 0 → exec .secondEvent s = .next s) ∧
    (0 < s.clock.secondsDue → ∃ t, exec .secondEvent s = .next t ∧
      t.clock = { s.clock with
        timeOfDay := (s.clock.timeOfDay + 1) % 86400
        secondsDue := s.clock.secondsDue - 1
        minutesDue :=
          if (s.clock.timeOfDay + 1) % 60 = 0 then s.clock.minutesDue + 1 else s.clock.minutesDue
        hoursDue :=
          if (s.clock.timeOfDay + 1) % 3600 = 0 then s.clock.hoursDue + 1 else s.clock.hoursDue
        daysDue :=
          if (s.clock.timeOfDay + 1) % 86400 = 0 then s.clock.daysDue + 1
          else s.clock.daysDue } ∧
      (∀ p : PumpId, t.pumps[p] =
        if s.pumps[p].configured = true ∧ s.pumps[p].reportsRunning = true ∧
            s.pumps[p].runTime < 4294967295 then
          { s.pumps[p] with runTime := s.pumps[p].runTime + 1 }
        else s.pumps[p]) ∧
      (∀ q : Port, t.port q =
        if (s.port q).latchMode = .auto then
          { s.port q with holding := (s.port q).live, live := 0 }
        else s.port q) ∧
      t = { s with
        clock := t.clock, pumps := t.pumps, portC := t.portC, portF1 := t.portF1
        portF2 := t.portF2 })

/-- A minute event: stamps an hour old leave every start history (R64), and the window in force is
selected, unless the day event of the same advance is still to come (R110, R116). A day event: the day
count rises; a COMPLETE NEXT bank becomes ACTIVE with PLAN_SWAPPED, any other is kept with PLAN_KEPT
(R118); then the window in force is selected. That an event acts when an advance has made it due, and
only then, is the model's choice (notes/assumptions/5.md). -/
def Obligations.MinuteAndDayEventsTaken : Prop :=
  (∀ s : State, (s.clock.minutesDue = 0 → exec .minuteEvent s = .next s) ∧
     (0 < s.clock.minutesDue → ∃ t, exec .minuteEvent s = .next t ∧
       t.clock = { s.clock with minutesDue := s.clock.minutesDue - 1 } ∧
       t.plan = (if s.clock.daysDue = 0 then { s.plan with inForce := s.selected } else s.plan) ∧
       (∀ p : PumpId, ∃ started, t.pumps[p].history =
         (s.pumps[p].history.dropWhile fun x => 36000 ≤ (s.clock.mono - x).toNat) ++ started) ∧
       t.kept = ({ s with clock := t.clock, plan := t.plan } : State).kept)) ∧
  (∀ s : State, (s.clock.daysDue = 0 → exec .dayEvent s = .next s) ∧
     (0 < s.clock.daysDue → ∃ t, exec .dayEvent s = .next t ∧
       t.clock =
         { s.clock with daysDue := s.clock.daysDue - 1, dayCount := s.clock.dayCount + 1 } ∧
       (if s.plan.nextState = .complete then
         t.plan.active = s.plan.next ∧ t.plan.next = [] ∧ t.plan.nextState = .empty ∧
           t.events.isLatched (.part .planSwapped) = true
        else
         t.plan.active = s.plan.active ∧ t.plan.next = s.plan.next ∧
           t.plan.nextState = s.plan.nextState ∧
           t.events.isLatched (.part .planKept) = true) ∧
       t.plan.inForce = t.selected ∧
       t.kept = ({ s with clock := t.clock, plan := t.plan } : State).kept))

/-- TIME_SET (R112, R113): a time of day and a day count are taken, tenths 0, time valid, the window
selected again and the monotonic count untouched, and it is answered DONE; an advance not yet taken
does not occur, and of one already taken no event is left: a day event still to come has made its swap
decision for the old time, PLAN_SWAPPED or PLAN_KEPT, and without one the banks and both flags stand.
A time above 86 399 is answered BAD_VALUE and nothing else changes. Which events of an advance are
taken before the set, and which not, is the model's reading of R113 (notes/assumptions/5.md). -/
def Obligations.TimeSetTaken : Prop :=
  ∀ (time : BitVec 24) (day : BitVec 16) (s : State),
    (86399 < time.toNat →
      exec (.timeSet time day) s = .next (s.answering kindTimeSet (Answer.of .badValue))) ∧
    (time.toNat ≤ 86399 → ∃ t, exec (.timeSet time day) s = .next t ∧
      t.clock =
        { timeOfDay := time.toNat, tenths := 0, dayCount := day, timeValid := true
          mono := s.clock.mono, secondsDue := 0, minutesDue := 0, hoursDue := 0, daysDue := 0 } ∧
      t.plan.inForce = t.selected ∧
      (s.clock.daysDue = 0 →
        t.plan.active = s.plan.active ∧ t.plan.next = s.plan.next ∧
          t.plan.nextState = s.plan.nextState ∧
          t.events.isLatched (.part .planSwapped) = s.events.isLatched (.part .planSwapped) ∧
          t.events.isLatched (.part .planKept) = s.events.isLatched (.part .planKept)) ∧
      (0 < s.clock.daysDue → s.plan.nextState = .complete →
        t.plan.active = s.plan.next ∧ t.plan.next = [] ∧ t.plan.nextState = .empty ∧
          t.events.isLatched (.part .planSwapped) = true) ∧
      (0 < s.clock.daysDue → s.plan.nextState ≠ .complete →
        t.plan.active = s.plan.active ∧ t.plan.next = s.plan.next ∧
          t.plan.nextState = s.plan.nextState ∧
          t.events.isLatched (.part .planKept) = true) ∧
      Answered s t kindTimeSet (Answer.of .done) ∧
      t.settled = ({ s with clock := t.clock, plan := t.plan } : State).settled)

/-! ### Lines (R135 to R148) -/

/-- PORT_UP (R136): a DOWN port is UP with its count set back and its receiver hunting for a start
mark; an interval brings its acquisition as the count of valid ones reaches the loss count, and not
again. The houses routed to F1 or F2 become ONLINE or SILENT by their silence timers (R18); for port C
the control presence follows (R130). Of a house that becomes ONLINE the paused confirm and dwell
timers run again from what remained (R62), and the issues pending that the port serves are placed in
ascending pump number while there is room (R45); this is said outside AUTONOMOUS, with an empty start
queue and no entry that watches a house, where no house of the other port changes. A port that is not
DOWN is left as it is. A PORT_UP of another state, and the count of intervals, are the model's choices
(notes/assumptions/6.md, notes/assumptions/13.md). -/
def Obligations.PortUpTaken : Prop :=
  ∀ (p : Port) (i : Interval) (s : State),
    ((s.port p).state = .down →
      (.acquired ∈ ((s.port p).takeInterval i).2 ↔
        i.valid = true ∧ (s.port p).intervals + 1 = (s.port p).lossCount) ∧
      ((s.port p).takeInterval i).1.intervals =
        if i.valid then (s.port p).intervals + 1 else 0) ∧
    ((s.port p).state ≠ .down → exec (.portUp p) s = .next s) ∧
    ((s.port p).state = .down → ∃ t, exec (.portUp p) s = .next t ∧
      (∃ placed, t.port p =
        { s.port p with
          state := .up, intervals := 0, receiver := {}, own := (s.port p).own ++ placed }) ∧
      (∀ q, q ≠ p → (t.port q).kept = (s.port q).kept) ∧
      (p = .c → t.authority.present = !s.authority.silenceTimer.isIdle ∧ t.houses = s.houses) ∧
      (p ≠ .c → t.authority = s.authority ∧ ∀ h : HouseId, s.houses[h].configured = true →
        s.housePort h = some p →
          t.houses[h] = { s.houses[h] with
            comm := if s.houses[h].silenceTimer.isIdle then .silent else .online }) ∧
      (s.unwatched → s.authority.mode ≠ .autonomous → s.queue = [] →
        (∀ k : HouseId, s.housePort k ≠ some p → t.houses[k] = s.houses[k]) →
        ∀ q : PumpId, s.housePort (houseOf q) = some p → s.houses[houseOf q].comm ≠ .online →
          t.houses[houseOf q].comm = .online →
            t.pumps[q].unissued = (s.pumps[q].resumed s.clock.mono).unissued ∧
            PendingPlaced
              { (((Work.of s).setPort p { s.port p with state := .up }).toState) with
                houses := t.houses } t p) ∧
      t.kept =
        ({ s with
          portC := t.portC, portF1 := t.portF1, portF2 := t.portF2, houses := t.houses
          authority := t.authority } : State).kept)

/-- LOSS_OF_CODE (R137, R138): an UP port becomes DOWN with its transmit side flushed and LOSS
latched, a telegram being received discarded, its houses UNREACHABLE or the control station absent; a
port in TEST stays there with its checker hunting afresh and LOSS latched, and its count goes on, so
that an interval finds the loss as the count since the last valid transition reaches the loss count,
and not again. The flush counts each pass telegram and reply DROPPED, makes an outstanding alert
pending again (R170), and gives a pump back its discarded awaited telegram as its issue pending (R45),
with its timers paused if its house was ONLINE (R62); the pumps are told of outside AUTONOMOUS, no
entry watching a house. A DOWN port is left as it is. The port is one that holds back no effect on
port C for a reply (notes/assumptions/30.md). A LOSS_OF_CODE in DOWN, and the count of intervals, are
the model's choices (notes/assumptions/6.md, notes/assumptions/13.md). -/
def Obligations.LossOfCodeTaken : Prop :=
  ∀ (p : Port) (i : Interval) (s : State),
    ((s.port p).state ≠ .down →
      (.lost ∈ ((s.port p).takeInterval i).2 ↔
        i.valid = false ∧ (s.port p).intervals + 1 = (s.port p).lossCount) ∧
      ((s.port p).takeInterval i).1.intervals =
        if i.valid then 0 else (s.port p).intervals + 1) ∧
    ((s.port p).state = .down → exec (.lossOfCode p) s = .next s) ∧
    ((s.port p).state = .test → ∃ t, exec (.lossOfCode p) s = .next t ∧
      t.port p = { s.port p with checker := {} } ∧
      t.events.isLatched (.port .loss p) = true ∧
      t.kept = ({ s with portC := t.portC, portF1 := t.portF1, portF2 := t.portF2 } : State).kept) ∧
    ((s.port p).state = .up → (s.port p).holdsBack = false →
      ∃ t, exec (.lossOfCode p) s = .next t ∧
        (t.port p).state = .down ∧ FlushTaken s t p ∧
        ((s.port p).live ≤ 65535 → (t.port p).live = (s.port p).liveFlushed) ∧
        (t.port p).intervals = 0 ∧ (t.port p).receiver = {} ∧
        t.events.isLatched (.port .loss p) = true ∧
        (∀ q, q ≠ p → (t.port q).kept = (s.port q).kept) ∧
        (p = .c → t.authority.present = false) ∧
        (p ≠ .c → ∀ h : HouseId, s.houses[h].configured = true → s.housePort h = some p →
          t.houses[h].comm = .unreachable) ∧
        t.settled =
          ({ s with
            portF1 := t.portF1, portF2 := t.portF2, houses := t.houses
            authority := t.authority } : State).settled)

/-- A violation, an abandoned telegram and the checker's two moves act on their port alone (R136,
R139, R143, R146). A violation: in DOWN it sets the acquisition count back; in TEST it is counted, and
in UP by the receiver: hunting it is counted, during assembly it is counted and abandons the telegram,
and past an abandoned telegram it is not counted. An abandoned telegram is counted in UP by its cause,
and no violation after it is counted again until a telegram begins, which a start mark does at once.
The checker moves in TEST only, and hunts afresh. An event of a state in which the rules give it
nothing to do does nothing by the model's choice (notes/assumptions/13.md), and so is what a command
of an interval's finding makes of the receiver (notes/assumptions/28.md). -/
def Obligations.LineEventsActOnTheirPort : Prop :=
  ∀ (p : Port) (cause : AbandonCause) (s : State),
    (∃ t, exec (.lineViolation p) s = .next t ∧
      ((s.port p).state = .down → t.port p = { s.port p with intervals := 0 }) ∧
      ((s.port p).state = .test → t.port p = (s.port p).count .codeViolation) ∧
      ((s.port p).state = .up →
        ((s.port p).receiver.phase = .hunting → t.port p = (s.port p).count .codeViolation) ∧
        ((s.port p).receiver.phase = .skipping → t.port p = s.port p) ∧
        ((s.port p).receiver.phase ≠ .hunting → (s.port p).receiver.phase ≠ .skipping →
          t.port p = ((s.port p).inPhase .skipping).count .codeViolation)) ∧
      (∀ q, q ≠ p → t.port q = s.port q) ∧
      t = { s with portC := t.portC, portF1 := t.portF1, portF2 := t.portF2 }) ∧
    (∃ t, exec (.telegramAbandoned p cause) s = .next t ∧
      t.port p =
        (if (s.port p).state = .up then
          ((s.port p).inPhase
            (if cause = .startMark then .assembling [] [] else .skipping)).count
              (if cause = .violation then .codeViolation else .length)
         else s.port p) ∧
      (∀ q, q ≠ p → t.port q = s.port q) ∧
      t = { s with portC := t.portC, portF1 := t.portF1, portF2 := t.portF2 }) ∧
    (∃ t, exec (.checkerInSync p) s = .next t ∧
      t.port p =
        (if (s.port p).state = .test ∧ (s.port p).checker.state = .hunting then
          { s.port p with
            checker := { (s.port p).checker with state := .inSync, checked := [] }
            errorFlagged := false }
         else s.port p) ∧
      (∀ q, q ≠ p → t.port q = s.port q) ∧
      t = { s with portC := t.portC, portF1 := t.portF1, portF2 := t.portF2 }) ∧
    (∃ t, exec (.checkerReturnToHunting p) s = .next t ∧
      t.port p =
        (if (s.port p).state = .test then { s.port p with checker := {} } else s.port p) ∧
      (∀ q, q ≠ p → t.port q = s.port q) ∧
      t = { s with portC := t.portC, portF1 := t.portF1, portF2 := t.portF2 })

/-- What an event adds to the live count (R143): one if it is of the port's class, ALL_ERRORS being
every class but PATTERN; the count stays at 65 535, and nothing else of the port changes.
PATTERN_BIT_ERROR (R146): in TEST and in sync the error is counted, and the first of a period in sync
latches TEST_ERRORS; otherwise nothing happens. A flag that is latched so is an alert trigger if its
kind is enabled, and else leaves the alert state as it stands, as does one latched before (R169,
R170). The checker of a PRBS pattern (R146, R147): from hunting, the bits that a generator sends bring
it into sync with the last of as many bits as its register has stages and 32 more, whatever the stages
of the generator, and not before; its next expectation is then the generator's. A checker in sync
finds a bit error in a bit that differs from the one expected and in no other, and goes on alike after
both; it falls out of sync exactly when 16 of the last 64 bits checked were in error. Which bit of the
register is sent is the model's choice (notes/assumptions/19.md), and what the checker does that R146
leaves open too (notes/assumptions/29.md). A bit error outside a period in sync does nothing by the
model's choice (notes/assumptions/13.md). -/
def Obligations.ErrorCountingTaken : Prop :=
  (∀ (r : PortRecord) (e : LineError), r.live ≤ 65535 →
     (r.count e).live ≤ 65535 ∧
       r.count e = { r with live :=
         if ((r.counterClass = .codeViolation ∧ e = .codeViolation) ∨
             (r.counterClass = .checkFail ∧ e = .checkFail) ∨
             (r.counterClass = .length ∧ e = .length) ∨
             (r.counterClass = .dropped ∧ e = .dropped) ∨
             (r.counterClass = .pattern ∧ e = .pattern) ∨
             (r.counterClass = .allErrors ∧ e ≠ .pattern)) then min 65535 (r.live + 1)
         else r.live }) ∧
  (∀ (p : Port) (s : State),
     (¬((s.port p).state = .test ∧ (s.port p).checker.state = .inSync) →
       exec (.patternBitError p) s = .next s) ∧
     ((s.port p).state = .test → (s.port p).checker.state = .inSync →
       ∃ t, exec (.patternBitError p) s = .next t ∧
         t.port p = { (s.port p).count .pattern with errorFlagged := true } ∧
         ((s.port p).errorFlagged = false → t.events.isLatched (.port .testErrors p) = true) ∧
         ((s.port p).errorFlagged = true → t.events = s.events) ∧
         ((s.port p).errorFlagged = false → s.events.isLatched (.port .testErrors p) = true →
           t.events = s.events) ∧
         ((s.port p).errorFlagged = false → s.events.isLatched (.port .testErrors p) = false →
           t.events.latched = s.events.latched ++ [⟨.port .testErrors p, s.clock.mono⟩] ∧
           t.events.holdoff = s.events.holdoff ∧
           (s.general.enableSet.getLsbD 10 = false → t.events.alertPending = s.events.alertPending ∧
             t.events.alertOutstanding = s.events.alertOutstanding) ∧
           (s.general.enableSet.getLsbD 10 = true → AlertTriggered
             (if p = .c then { s.portC.count .pattern with errorFlagged := true } else s.portC) s t)) ∧
         t.kept =
           ({ s with portC := t.portC, portF1 := t.portF1, portF2 := t.portF2 } : State).kept)) ∧
  ((∀ (r : BitVec 15) (t : TestSettings), t.pattern ≠ .user →
      ∀ n, n ≤ t.pattern.stages + 32 →
        (checkerAfter { register := r } {} t n).2 =
          (if n = t.pattern.stages + 32 then [.inSync] else []) ∧
        (n = t.pattern.stages + 32 →
          (checkerAfter { register := r } {} t n).1.expected t =
            (generatorAfter { register := r } t n).bit t)) ∧
   (∀ (c : Checker) (t : TestSettings) (b : Bool), c.state = .inSync →
      ((c.take t b).1 = { c with
        register := shiftIn c.register (c.expected t)
        place := (c.place + 1) % 24
        checked := (((b != t.invert) != c.expected t) :: c.checked).take 64 }) ∧
      (.bitError ∈ (c.take t b).2 ↔ b ≠ (c.expected t != t.invert)) ∧
      (.outOfSync ∈ (c.take t b).2 ↔ 16 ≤ (c.take t b).1.checked.count true)))

/-- TRANSMIT_TAKE (R142, R147): a free transmitter of an UP port takes the head of the part's own
queue, inverting a check word bit if an insertion is held; with that queue empty, the head of the pass
queue, unaltered; otherwise it takes nothing. What a queue then takes in stands behind: the issues
pending that a field port serves are placed in ascending pump number while there is room (R45). A take
with nothing to take does nothing by the model's choice (notes/assumptions/13.md,
notes/assumptions/14.md). -/
def Obligations.TransmitTakeOrder : Prop :=
  ∀ (p : Port) (s : State),
    (∀ x rest, (s.port p).state = .up → (s.port p).sending = none → (s.port p).own = x :: rest →
      ∃ t placed, exec (.transmitTake p) s = .next t ∧
        t.port p = { s.port p with
          own := rest ++ placed
          sending := some (.own
            (if (s.port p).insertHeld then { x with bytes := invertCheck x.bytes } else x))
          insertHeld := false } ∧
        (p ≠ .c → PendingPlaced
          (((Work.of s).setPort p { s.port p with own := rest }).toState) t p) ∧
        (∀ q, q ≠ p → t.port q = s.port q) ∧
        t.kept =
          ({ s with portC := t.portC, portF1 := t.portF1, portF2 := t.portF2 } : State).kept) ∧
    (∀ x rest, (s.port p).state = .up → (s.port p).sending = none → (s.port p).own = [] →
      (s.port p).pass = x :: rest →
        ∃ t, exec (.transmitTake p) s = .next t ∧
          t.port p = { s.port p with pass := rest, sending := some (.pass x) } ∧
          (∀ q, q ≠ p → t.port q = s.port q) ∧
          t = { s with portC := t.portC, portF1 := t.portF1, portF2 := t.portF2 }) ∧
    ((s.port p).state ≠ .up ∨ (s.port p).sending ≠ none ∨
        ((s.port p).own = [] ∧ (s.port p).pass = []) →
      exec (.transmitTake p) s = .next s)

/-- TRANSMISSION_COMPLETE (R142, R162, R170): the transmitter is free; a pass telegram or a reply that
holds nothing back does no more; an alert ends its outstanding state and starts the holdoff timer; a
reply makes the effect it held back on port C, with the flush of R138. A command telegram (R44, R51,
R53, R56, R57): one that its pump does not await changes no pump; the one it awaits is awaited no
longer, and, if it was issued for the position at which the profile in progress stands, starts that
point's dwell, running or paused by reachability, starts the stop confirm timer after a STOP, or, the
last of a start, confirms the start if nothing is pending and the last report shows the pump running
and offered. A completion with nothing in transmission does nothing (notes/assumptions/13.md), and the
serial by which a telegram is known is the model's (notes/assumptions/7.md). -/
def Obligations.TransmissionCompleteTaken : Prop :=
  ∀ (p : Port) (s : State),
    ((s.port p).sending = none → exec (.transmissionComplete p) s = .next s) ∧
    (∀ x, (s.port p).sending = some x →
      (∀ b, x = .own ⟨.reply none, b⟩ ∨ x = .pass b →
        ∃ t, exec (.transmissionComplete p) s = .next t ∧
          t.port p = { s.port p with sending := none } ∧ (∀ q, q ≠ p → t.port q = s.port q) ∧
          t = { s with portC := t.portC, portF1 := t.portF1, portF2 := t.portF2 }) ∧
      (∀ b, x = .own ⟨.alert, b⟩ →
        ∃ t, exec (.transmissionComplete p) s = .next t ∧
          t.port p = { s.port p with sending := none } ∧ (∀ q, q ≠ p → t.port q = s.port q) ∧
          t = { s with
            portC := t.portC, portF1 := t.portF1, portF2 := t.portF2
            events := { s.events with
              alertOutstanding := false
              holdoff := .running s.clock.mono (s.general.alertHoldoff * 10) } }) ∧
      (∀ pump n b, x = .own ⟨.command pump n, b⟩ →
        ∃ t, exec (.transmissionComplete p) s = .next t ∧ (t.port p).sending = none ∧
          t.kept =
            ({ s with portC := t.portC, portF1 := t.portF1, portF2 := t.portF2 } : State).kept ∧
          (s.pumps[pump].awaited = none → t.pumps = s.pumps) ∧
          (∀ a : Issued, s.pumps[pump].awaited = some a → a.serial ≠ n → t.pumps = s.pumps) ∧
          (∀ a : Issued, s.pumps[pump].awaited = some a → a.serial = n →
            (s.pumps[pump].state ≠ .starting ∨ s.pumps[pump].offered = false ∨
                s.pumps[pump].reportsRunning = false →
              ∀ q : PumpId, q ≠ pump → t.pumps[q] = s.pumps[q]) ∧
            ((a.step ≠ s.pumps[pump].position ∨
                (s.pumps[pump].state ≠ .starting ∧ s.pumps[pump].state ≠ .stopping)) →
              t.pumps[pump] = { s.pumps[pump] with awaited := none }) ∧
            (a.step = s.pumps[pump].position → s.pumps[pump].state = .stopping →
              (s.pumps[pump].position = some .stop →
                t.pumps[pump] = { s.pumps[pump] with
                  awaited := none
                  confirmTimer := s.pausableFor pump (s.pumps[pump].stopConfirmLimit * 10) }) ∧
              (∀ k pt, s.pumps[pump].position = some (.point k) →
                (s.profilePoints s.pumps[pump].stopProfile)[k]? = some pt →
                  t.pumps[pump] = { s.pumps[pump] with
                    awaited := none, dwellTimer := s.pausableFor pump pt.dwell })) ∧
            (a.step = s.pumps[pump].position → s.pumps[pump].state = .starting →
              ∀ k, s.pumps[pump].position = some (.point k) →
                (∀ pt, (s.profilePoints s.pumps[pump].startProfile)[k]? = some pt →
                  k + 1 < (s.profilePoints s.pumps[pump].startProfile).length →
                    t.pumps[pump] = { s.pumps[pump] with
                      awaited := none, dwellTimer := s.pausableFor pump pt.dwell }) ∧
                ((s.profilePoints s.pumps[pump].startProfile).length ≤ k + 1 →
                  (s.pumps[pump].issuePending ≠ none ∨ s.pumps[pump].offered = false ∨
                      s.pumps[pump].reportsRunning = false →
                    t.pumps[pump] = { s.pumps[pump] with awaited := none }) ∧
                  (s.pumps[pump].issuePending = none → s.pumps[pump].offered = true →
                    s.pumps[pump].reportsRunning = true → 0 < s.pumps[pump].minRun →
                      { t.pumps[pump] with stopPending := false } = { s.pumps[pump] with
                        awaited := none, state := .running, confirmTimer := .idle
                        position := none, stopPending := false
                        minRunTimer :=
                          .running s.clock.mono (s.pumps[pump].minRun * 10) } ∧
                      t.zones[s.pumps[pump].deliveryZone].settleTimer =
                        (if s.zones[s.pumps[pump].deliveryZone].settleTime = 0 then .idle
                         else .running s.clock.mono
                           (s.zones[s.pumps[pump].deliveryZone].settleTime * 10))))))) ∧
      (∀ b, x = .own ⟨.reply (some .reset), b⟩ → p = .c → (∀ y ∈ s.portC.own, ∀ d,
          y.kind ≠ .reply (some d)) →
        ∃ t, exec (.transmissionComplete p) s = .next t ∧ t.portC.state = .down ∧
          FlushTaken { s with portC := { s.portC with sending := none } } t .c ∧
          t.portC.live = 0 ∧ t.portC.holding = 0 ∧ t.portC.insertHeld = false) ∧
      (∀ b, x = .own ⟨.reply (some .rateChange), b⟩ → p = .c → (∀ y ∈ s.portC.own, ∀ d,
          y.kind ≠ .reply (some d)) →
        ∃ t, exec (.transmissionComplete p) s = .next t ∧ t.portC.state = .down ∧
          FlushTaken { s with portC := { s.portC with sending := none } } t .c) ∧
      (∀ settings b, x = .own ⟨.reply (some (.enterTest settings)), b⟩ → p = .c →
          (∀ y ∈ s.portC.own, ∀ d, y.kind ≠ .reply (some d)) →
        ∃ t, exec (.transmissionComplete p) s = .next t ∧ t.portC.state = .test ∧
          t.portC.test = some settings ∧ t.portC.checker = {} ∧
          (s.portC.state ≠ .test →
            FlushTaken { s with portC := { s.portC with sending := none } } t .c)))

/-! ### The receive side and the switch (R140, R153 to R161, R172, R173) -/

/-- A received telegram that fails a check is counted and no more (R140), the receiver hunting again:
LENGTH for a telegram of fewer than 6 or more than 62 bytes or with an item count that does not agree
with its length, before CHECK_FAIL for a check word that is not the one computed; a port that is not
UP takes no telegram. A telegram from port C for a field station that is no PUMP_SET, or a PUMP_SET to
one station whose items name no configured pump: it goes to the pass queue of the port its destination
is routed to, the broadcast address to both, and without a route it is UNROUTED (R156, R158, R161).
From the control station it is heard besides (R130). A telegram at a port that is not UP does nothing
by the model's choice (notes/assumptions/13.md). -/
def Obligations.BadAreCountedOthersPassDown : Prop :=
  (∀ (p : Port) (bytes : List Byte) (s : State),
     ((s.port p).state ≠ .up → exec (.receiveCompletion p bytes) s = .next s) ∧
     ((s.port p).state = .up →
       (bytes.length < 6 ∨ 62 < bytes.length ∨ (bytes.getD 3 0).toNat + 6 ≠ bytes.length) →
       ∃ t, exec (.receiveCompletion p bytes) s = .next t ∧
         t.port p = ((s.port p).inPhase .hunting).count .length ∧
         (∀ q, q ≠ p → t.port q = s.port q) ∧
         t = { s with portC := t.portC, portF1 := t.portF1, portF2 := t.portF2 }) ∧
     ((s.port p).state = .up → 6 ≤ bytes.length → bytes.length ≤ 62 →
       (bytes.getD 3 0).toNat + 6 = bytes.length →
       bytes.drop (bytes.length - 2) ≠ be16 (checkWord (bytes.take (bytes.length - 2))) →
       ∃ t, exec (.receiveCompletion p bytes) s = .next t ∧
         t.port p = ((s.port p).inPhase .hunting).count .checkFail ∧
         (∀ q, q ≠ p → t.port q = s.port q) ∧
         t = { s with portC := t.portC, portF1 := t.portF1, portF2 := t.portF2 })) ∧
  (∀ (x : Telegram) (s : State), x.items.length ≤ 56 → s.portC.state = .up → x.source ≠ 63 →
     x.source ≠ s.switch.partAddress → x.destination ≠ s.switch.partAddress →
     (x.kind ≠ kindPumpSet ∨ (x.destination ≠ 63 ∧ s.houseNamed x = none)) →
     (∃ t, exec (.receiveCompletion .c x.bytes) s = .next t ∧
       t.portF1 =
         (if x.destination = 63 ∨ s.switch.route[x.destination.toNat] = some .f1 then
           if s.portF1.state = .up ∧ s.portF1.pass.length < 8 then
             { s.portF1 with pass := s.portF1.pass ++ [x.bytes] }
           else s.portF1.count .dropped
          else s.portF1) ∧
       t.portF2 =
         (if x.destination = 63 ∨ s.switch.route[x.destination.toNat] = some .f2 then
           if s.portF2.state = .up ∧ s.portF2.pass.length < 8 then
             { s.portF2 with pass := s.portF2.pass ++ [x.bytes] }
           else s.portF2.count .dropped
          else s.portF2) ∧
       t.switch =
         (if x.destination ≠ 63 ∧ s.switch.route[x.destination.toNat] = none then
           { s.switch with unrouted := raise s.switch.unrouted }
          else s.switch) ∧
       t.authority =
         (if x.source = s.switch.controlAddress then s.heard.authority else s.authority) ∧
       t = { s.receivedAt .c with
         portF1 := t.portF1, portF2 := t.portF2, switch := t.switch, authority := t.authority }))

/-- What the part composes, a receiver takes for what it is (R140, R172, R173), and with a bit of its
check word inverted (R147) it fails the check word. A telegram sent in the line code is received as it
was sent (R134, R139): it takes ten intervals a byte and four for its marks, and a receiver that hunts
in UP finds in them the telegram and nothing else, and hunts again; the idle fill between telegrams
brings nothing. The intervals of the line are no commands (notes/assumptions/6.md,
notes/assumptions/28.md). -/
def Obligations.TelegramRoundTrip : Prop :=
  (∀ x : Telegram, x.items.length ≤ 56 →
     checkReceived x.bytes = .telegram x ∧ checkReceived (invertCheck x.bytes) = .badCheck) ∧
  ((∀ bytes : List Byte, (lineCode bytes).length = 10 * bytes.length + 4) ∧
   (∀ bytes : List Byte, bytes.length ≤ 62 →
      Receiver.takeAll {} (lineCode bytes) = ({}, [.completed bytes])) ∧
   (∀ telegrams : List (List Byte), (∀ bytes ∈ telegrams, bytes.length ≤ 62) →
      Receiver.takeAll {} (lineOf telegrams) = ({}, telegrams.map .completed)))

/-- A telegram from port C with a false source, or for the part from another station than the control
station or of no management kind, or a PUMP_SET that is broadcast or names a configured pump and comes
from another station, is REJECTED: counted, flagged, and nothing else (R153 to R157, R161). A telegram
from a field port for another station than the part is offered to port C's pass queue as it was
received; a report among them is taken by the tracker as well, as the command of its items; one with a
false source, or addressed to the part, is MISDIRECTED (R153, R160, R161). That the typed LEVEL_REPORT
and PUMP_REPORT rows are the last hand-over of a received report is the model's choice
(notes/assumptions/8.md). -/
def Obligations.SourcesAreTestedFirst : Prop :=
  (∀ (x : Telegram) (s : State), x.items.length ≤ 56 → s.portC.state = .up →
     (x.source = 63 ∨ x.source = s.switch.partAddress ∨
       (x.destination = s.switch.partAddress ∧
         (x.source ≠ s.switch.controlAddress ∨ isManagementKind x.kind = false)) ∨
       (x.destination ≠ s.switch.partAddress ∧ x.kind = kindPumpSet ∧
         (x.destination = 63 ∨
           (x.source ≠ s.switch.controlAddress ∧ s.houseNamed x ≠ none)))) →
     ∃ t, exec (.receiveCompletion .c x.bytes) s = .next t ∧
       t.switch = { s.switch with rejected := raise s.switch.rejected } ∧
       t.events.isLatched (.part .rejectedTelegrams) = true ∧
       t.pumps = s.pumps ∧ t.zones = s.zones ∧ t.queue = s.queue ∧ t.interlocks = s.interlocks ∧
       t.portF1 = s.portF1 ∧ t.portF2 = s.portF2 ∧
       (∀ y ∈ t.portC.own, y ∈ s.portC.own ∨ y.kind = .alert) ∧
       (x.source ≠ s.switch.controlAddress → t.authority = s.authority) ∧
       t.kept =
         ({ s.receivedAt .c with switch := t.switch, authority := t.authority } : State).kept) ∧
  (∀ (p : Port) (x : Telegram) (s : State), p ≠ .c → x.items.length ≤ 56 → (s.port p).state = .up →
     (x.source = 63 ∨ x.source = s.switch.partAddress ∨ x.destination = s.switch.partAddress →
       exec (.receiveCompletion p x.bytes) s = .next { s.receivedAt p with
         switch := { s.switch with misdirected := raise s.switch.misdirected } }) ∧
     (x.source ≠ 63 → x.source ≠ s.switch.partAddress → x.destination ≠ s.switch.partAddress →
       ∀ u : State, u = { s.receivedAt p with
         portC :=
           if s.portC.state = .up ∧ s.portC.pass.length < 12 then
             { s.portC with pass := s.portC.pass ++ [x.bytes] }
           else s.portC.count .dropped } →
       (x.kind = 0x10 →
         exec (.receiveCompletion p x.bytes) s = exec (.levelReport x.source (levelItems x.items)) u) ∧
       (x.kind = 0x11 →
         exec (.receiveCompletion p x.bytes) s = exec (.pumpReport x.source (pumpItems x.items)) u) ∧
       (x.kind ≠ 0x10 → x.kind ≠ 0x11 →
         exec (.receiveCompletion p x.bytes) s = .next u)))

/-- A management telegram received on port C from the control station is the command it carries, taken
after the control station has been heard: the layouts of R175 and R176 and the checks of R140 lose no
operand of any of these commands (R130, R154, R162). A PUMP_SET from the control station that names a
configured pump of a house is intercepted (R156, R157): of one item it is the request that the item
carries for that pump, an item of another command BAD_VALUE; of any number it is answered with one
result for each item, BAD_INDEX for an item that names no configured pump, and in CONFIG
NOT_RUNNING_MODE for one that carries a command (R124). That the typed command is the hand-over alone
is the model's choice (notes/assumptions/8.md), as is the reply to a request given as a command of its
own (notes/assumptions/20.md). -/
def Obligations.ManagementTelegramIsItsCommand : Prop :=
  (∀ (c : Instr) (kind : Byte) (items : List Byte) (s : State),
     requestOf c = some (kind, items) → Instr.wellFormed c = true → s.portC.state = .up →
     s.switch.controlAddress ≠ 63 → s.switch.controlAddress ≠ s.switch.partAddress →
       exec (.receiveCompletion .c
         (Telegram.bytes
           { destination := s.switch.partAddress, source := s.switch.controlAddress,
             kind := kind, items := items })) s = exec c (s.receivedAt .c).heard) ∧
  (∀ (p : PumpId) (a : Addr) (i : SetItem) (rest : List SetItem) (s : State),
     s.portC.state = .up → s.switch.controlAddress ≠ 63 →
     s.switch.controlAddress ≠ s.switch.partAddress → a ≠ 63 → a ≠ s.switch.partAddress →
     s.houseAt a = some (houseOf p) → i.index.toNat = localIndex p → s.pumps[p].configured = true →
       (∀ c, (i.command = 1 ∧ c = .start p i.priority) ∨ (i.command = 2 ∧ c = .stop p) ∨
           (i.command = 3 ∧ c = .speed p i.speed) →
         exec (.receiveCompletion .c (s.settingBytes a [i])) s =
           exec c (s.receivedAt .c).heard) ∧
       (i.command.toNat = 0 ∨ 3 < i.command.toNat →
         exec (.receiveCompletion .c (s.settingBytes a [i])) s =
           .next ((s.receivedAt .c).heard.answering kindPumpSet (Answer.of .badValue))) ∧
       (rest.length ≤ 13 → ∃ t results,
         exec (.receiveCompletion .c (s.settingBytes a (i :: rest))) s = .next t ∧
         Answered (s.receivedAt .c).heard t kindPumpSet { results := results } ∧
         results.length = rest.length + 1 ∧
         (∀ (n : Nat) (j : SetItem) (r : Result), (i :: rest)[n]? = some j → results[n]? = some r →
           (s.pumpNamed (houseOf p) j.index = none → r = .badIndex) ∧
           (s.pumpNamed (houseOf p) j.index ≠ none →
             (j.command.toNat = 0 ∨ 3 < j.command.toNat → r = .badValue) ∧
             (1 ≤ j.command.toNat → j.command.toNat ≤ 3 → s.authority.mode = .config →
               r = .notRunningMode))) ∧
         t.settled = (s.receivedAt .c).heard.settled))

/-! ### Reports at the tracker (R4 to R19, R47 to R59) -/

/-- A report is heard by the house at its source (R17, R18): its silence timer starts again and it is
ONLINE if its port is UP, else UNREACHABLE; where that brings it to or from ONLINE, the entries that
watch it have their cause ended or started (R95); the other houses stand, and so does the house of
another source. Whatever the items say, no configuration field, no port but its own queue and no time
changes. -/
def Obligations.ReportsHearTheirHouse : Prop :=
  ∀ (source : Addr) (levels : List LevelItem) (pumps : List PumpItem) (s : State) (c : Instr),
    c = .levelReport source levels ∨ c = .pumpReport source pumps →
      ∃ t, exec c s = .next t ∧
        (∀ h : HouseId, t.houses[h] =
          if s.houseAt source = some h then
            { s.houses[h] with
              lastReport := some s.clock.mono
              silenceTimer := .running s.clock.mono (s.houses[h].silenceLimit * 10)
              comm := s.commFor
                { s.houses[h] with silenceTimer := .running s.clock.mono 0 } }
          else s.houses[h]) ∧
        (∀ (h : HouseId) (e : EntryId) (content : InterlockContent),
          s.interlocks[e].content = some content → s.interlocks[e].enabled = true →
          content.cause = .houseNotOnline h →
          (s.houses[h].comm = .online ↔ t.houses[h].comm ≠ .online) →
            CauseTaken s t e content (decide (t.houses[h].comm ≠ .online))) ∧
        (∀ p : PumpId, { t.pumps[p].kept with report := none, tripSeen := false } =
          { s.pumps[p].kept with report := none, tripSeen := false }) ∧
        (∀ z : ZoneId, t.zones[z].inUse = s.zones[z].inUse ∧
          t.zones[z].reporter = s.zones[z].reporter ∧
          t.zones[z].startLevel = s.zones[z].startLevel ∧
          t.zones[z].stopLevel = s.zones[z].stopLevel ∧
          t.zones[z].staleLimit = s.zones[z].staleLimit ∧
          t.zones[z].smoothing = s.zones[z].smoothing ∧ t.zones[z].horizon = s.zones[z].horizon ∧
          t.zones[z].stepDelay = s.zones[z].stepDelay ∧
          t.zones[z].settleTime = s.zones[z].settleTime ∧
          t.zones[z].demandPriority = s.zones[z].demandPriority) ∧
        (∀ e : EntryId, t.interlocks[e].enabled = s.interlocks[e].enabled ∧
          t.interlocks[e].content = s.interlocks[e].content) ∧
        (∀ q : Port, (t.port q).kept = (s.port q).kept) ∧
        t.clock = s.clock ∧ t.plan = s.plan ∧ t.authority = s.authority ∧ t.general = s.general ∧
        t.switch = s.switch ∧ t.inputs = s.inputs ∧ t.feeders = s.feeders ∧ t.profiles = s.profiles

/-- One level reading (R5 to R10): turned away, it raises a count; accepted and GOOD or SUSPECT, it
makes the zone LIVE at the level clamped to 32 000; FAILED, it makes the zone FAILED with SENSOR_FAIL
latched on entry, and keeps the level; the stale timer starts again. No other zone is touched. What a
level reading does to the causes of the enabled entries that watch its zone (R94, R96, R97). A new
level: at or below its level a ZONE_AT_OR_BELOW cause is present, above level and band it is absent,
between the two it stays as it was, and ZONE_AT_OR_ABOVE likewise the other way round. A zone that
comes to LIVE ends ZONE_NOT_LIVE, and one that leaves it starts it. -/
def Obligations.LevelReadingTaken : Prop :=
  (∀ (source : Addr) (item : LevelItem) (s : State),
     ∃ t, exec (.levelReport source [item]) s = .next t ∧
       (16 ≤ item.zone.toNat → t.tracker =
         { s.tracker with unknown := raise s.tracker.unknown } ∧
           ∀ y : ZoneId, t.zones[y].kept = s.zones[y].kept) ∧
       ∀ z : ZoneId, item.zone.toNat = z.val →
         (∀ y : ZoneId, y ≠ z → t.zones[y].kept = s.zones[y].kept) ∧
         (s.zones[z].inUse = false →
           t.tracker = { s.tracker with unknown := raise s.tracker.unknown } ∧
             t.zones[z].kept = s.zones[z].kept) ∧
         (s.zones[z].inUse = true → s.zones[z].reporter ≠ some source →
           t.tracker = { s.tracker with mismatch := raise s.tracker.mismatch } ∧
             t.zones[z].kept = s.zones[z].kept) ∧
         (s.zones[z].inUse = true → s.zones[z].reporter = some source →
           t.tracker = s.tracker ∧
           (item.quality.toNat < 2 → t.zones[z].kept = { s.zones[z].kept with
             state := .live
             level := some (min 32000 item.level.toNat)
             quality := some (if item.quality = 0 then .good else .suspect)
             lastReading := some s.clock.mono
             staleTimer := .running s.clock.mono (s.zones[z].staleLimit * 10) }) ∧
           (2 ≤ item.quality.toNat → t.zones[z].kept = { s.zones[z].kept with
             state := .failed
             quality := some .failed
             lastReading := some s.clock.mono
             staleTimer := .running s.clock.mono (s.zones[z].staleLimit * 10) } ∧
               (s.zones[z].state ≠ .failed →
                 t.events.isLatched (.zone .sensorFail z) = true)))) ∧
  (∀ (source : Addr) (item : LevelItem) (s : State) (z : ZoneId) (e : EntryId)
     (c : InterlockContent), item.zone.toNat = z.val → s.zones[z].inUse = true →
     s.zones[z].reporter = some source → s.interlocks[e].content = some c →
     s.interlocks[e].enabled = true →
       ∃ t, exec (.levelReport source [item]) s = .next t ∧
         (item.quality.toNat < 2 → ∀ l, l = min 32000 item.level.toNat →
           s.zones[z].level ≠ some l ∨ s.zones[z].state ≠ .live →
             (∀ v b, c.cause = .zoneAtOrBelow z v b →
               CauseTaken s t e c
                 (if l ≤ v then true else if v + b < l then false
                  else s.interlocks[e].present)) ∧
             (∀ v b, c.cause = .zoneAtOrAbove z v b →
               CauseTaken s t e c
                 (if v ≤ l then true else if l + b < v then false
                  else s.interlocks[e].present))) ∧
         (c.cause = .zoneNotLive z →
           (item.quality.toNat < 2 → s.zones[z].state ≠ .live → CauseTaken s t e c false) ∧
           (2 ≤ item.quality.toNat → s.zones[z].state = .live → CauseTaken s t e c true) ∧
           ((item.quality.toNat < 2 ↔ s.zones[z].state = .live) →
             CauseTaken s t e c s.interlocks[e].present)))

/-- One item of a pump report (R14, R49): turned away, it raises the unknown object count; taken, it
is the pump's report with the speed clamped to 100, and a trip not seen before latches OUTSTATION_TRIP
and adds that member to the lockout set. What a report makes of its pump by the pump's state, the
report itself and the trip seen apart (R47, R48, R50, R58, R59, R63): an UNKNOWN pump takes the state
the report shows; a pump OFF, QUEUED or UNAVAILABLE that is offered and runs is taken as RUNNING,
UNCOMMANDED_RUN latched unless it was UNAVAILABLE; one not offered becomes UNAVAILABLE, a profile in
progress ended, or LOCKED from STOPPING with a lockout member; a RUNNING pump that stopped by itself
is OFF with UNCOMMANDED_STOP latched; a LOCKED pump stands. A trip edge (R49) locks the pump out,
whatever its state. No other pump changes. -/
def Obligations.PumpReportTaken : Prop :=
  (∀ (source : Addr) (item : PumpItem) (s : State),
     ∃ t, exec (.pumpReport source [item]) s = .next t ∧
       (s.houseAt source = none →
         t = { s with tracker := { s.tracker with unknown := raise s.tracker.unknown } }) ∧
       ∀ h : HouseId, s.houseAt source = some h →
         (4 ≤ item.index.toNat →
           t.tracker = { s.tracker with unknown := raise s.tracker.unknown }) ∧
         ∀ p : PumpId, houseOf p = h → localIndex p = item.index.toNat →
           (s.pumps[p].configured = false →
             t.tracker = { s.tracker with unknown := raise s.tracker.unknown } ∧
               t.pumps[p].report = s.pumps[p].report) ∧
           (s.pumps[p].configured = true → t.tracker = s.tracker ∧
             t.pumps[p].report = some
               { running := item.flags.getLsbD 0, available := item.flags.getLsbD 1
                 tripped := item.flags.getLsbD 2, speed := min 100 item.speed.toNat
                 time := s.clock.mono } ∧
             t.pumps[p].tripSeen = item.flags.getLsbD 2 ∧
             (item.flags.getLsbD 2 = true → s.pumps[p].tripSeen = false →
               t.events.isLatched (.pump .outstationTrip p) = true ∧
                 t.pumps[p].lockout.outstationTrip = true))) ∧
  (∀ (w : Work) (p : PumpId) (r : PumpReport) (x y : Pump) (rest : Timer) (idle : PumpState),
     x = { w.pumps[p] with report := some r, tripSeen := r.tripped } →
     y = (w.takeReport p r).pumps[p] →
     rest = (if x.minOff = 0 then .idle else .running w.now (x.minOff * 10)) →
     idle = (if x.lockout.isEmpty then .off else .locked) →
       (∀ q : PumpId, q ≠ p → (w.takeReport p r).pumps[q] = w.pumps[q]) ∧
       (r.tripped = false ∨ w.pumps[p].tripSeen = true →
         (x.state = .locked → y = x) ∧
         (x.state = .unknown → r.offers = false → y = { x with
           state := if x.lockout.isEmpty then .unavailable else .locked }) ∧
         (x.state = .unknown → r.offers = true → r.running = true → y = { x with
           state := if x.lockout.isEmpty then .running else .locked, minRunTimer := .idle }) ∧
         (x.state = .unknown → r.offers = true → r.running = false → y = { x with state := idle }) ∧
         (x.state = .off ∨ x.state = .queued →
           (r.offers = false → y = { x with state := .unavailable }) ∧
           (r.offers = true → r.running = false → y = x) ∧
           (r.offers = true → r.running = true →
             y = { x with state := .running, minRunTimer := .idle } ∧
               (w.takeReport p r).events.isLatched (.pump .uncommandedRun p) = true)) ∧
         (x.state = .queued → r.offers = false ∨ r.running = true →
           (w.takeReport p r).queue = w.queue.filter fun e => e.pump != p) ∧
         (x.state = .unavailable →
           (r.offers = false → y = x) ∧
           (r.offers = true → r.running = false → y = { x with state := idle }) ∧
           (r.offers = true → r.running = true →
             y = { x with state := .running, minRunTimer := .idle } ∧
               (w.takeReport p r).events = w.events)) ∧
         (x.state = .starting → r.offers = false →
           y = { x.endProfile with state := .unavailable, stopPending := false }) ∧
         (x.state = .running →
           (r.offers = true → r.running = true → y = x) ∧
           (r.offers = true → r.running = false →
             y = { x with state := idle, stopPending := false, minOffTimer := rest } ∧
               (w.takeReport p r).events.isLatched (.pump .uncommandedStop p) = true) ∧
           (r.offers = false → r.running = true →
             y = { x with state := .unavailable, stopPending := false }) ∧
           (r.offers = false → r.running = false →
             y = { x with state := .unavailable, stopPending := false, minOffTimer := rest } ∧
               (w.takeReport p r).events.isLatched (.pump .uncommandedStop p) = true)) ∧
         (x.state = .stopping →
           (r.offers = true → r.running = true → y = x) ∧
           (r.offers = false → x.lockout.isEmpty = true →
             y = { x.endProfile with state := .unavailable, stopPending := false }) ∧
           (r.offers = false → x.lockout.isEmpty = false →
             y = { x.endProfile with
               state := .locked, stopPending := false, minOffTimer := rest }))) ∧
       (r.tripped = true → w.pumps[p].tripSeen = false →
         (w.takeReport p r).events.isLatched (.pump .outstationTrip p) = true ∧
         y.lockout = { x.lockout with outstationTrip := true } ∧ y.state = .locked ∧
         (x.state = .starting ∨ x.state = .stopping → y = { x.endProfile with
           state := .locked, lockout := y.lockout, minOffTimer := rest
           stopPending := y.stopPending }) ∧
         (x.state = .running → y = { x with
           state := .locked, lockout := y.lockout, minOffTimer := rest, stopPending := false }) ∧
         (x.state ≠ .starting → x.state ≠ .stopping → x.state ≠ .running →
           y = { x with state := .locked, lockout := y.lockout })))

/-- A start is confirmed by the report that shows it (R53, R63, R85): a STARTING pump whose start is
fully issued, reported running, available and not tripped, is RUNNING with its min run timer started,
and its zone's settle timer starts, in the same step (notes/assumptions/26.md); one not fully issued,
or not reported running, stays STARTING. A stop is confirmed by the report that shows it (R58, R63,
R85): a STOPPING pump reported stopped, available and not tripped is OFF, or LOCKED with a member in
its set, with its min off timer started, nothing left to issue and its zone's settle timer started. A
telegram of it still to complete is awaited, for no position of a profile (notes/assumptions/7.md). -/
def Obligations.ReportConfirmsStartAndStop : Prop :=
  (∀ (w : Work) (p : PumpId) (r : PumpReport), w.pumps[p].state = .starting →
     r.available = true → r.tripped = false →
       (w.fullyIssued p = false ∨ r.running = false →
         (w.takeReport p r).pumps[p] = { w.pumps[p] with report := some r, tripSeen := false }) ∧
       (w.fullyIssued p = true → r.running = true →
         (w.takeReport p r).pumps[p] = { w.pumps[p] with
           state := .running, report := some r, tripSeen := false, position := none
           confirmTimer := .idle
           minRunTimer :=
             if w.pumps[p].minRun = 0 then .idle else .running w.now (w.pumps[p].minRun * 10) } ∧
         (w.takeReport p r).zones[w.pumps[p].deliveryZone].settleTimer =
           (if w.zones[w.pumps[p].deliveryZone].settleTime = 0 then .idle
            else .running w.now (w.zones[w.pumps[p].deliveryZone].settleTime * 10)) ∧
         ∀ q : PumpId, q ≠ p → (w.takeReport p r).pumps[q] = w.pumps[q])) ∧
  (∀ (w : Work) (p : PumpId) (r : PumpReport), w.pumps[p].state = .stopping →
     r.running = false → r.available = true → r.tripped = false →
       (w.takeReport p r).pumps[p] = { w.pumps[p] with
         state := if w.pumps[p].lockout.isEmpty then .off else .locked
         report := some r, tripSeen := false, position := none, issuePending := none
         awaited := w.pumps[p].awaited.map fun a => { a with step := none }
         dwellTimer := .idle, confirmTimer := .idle
         minOffTimer :=
           if w.pumps[p].minOff = 0 then .idle else .running w.now (w.pumps[p].minOff * 10) } ∧
       (w.takeReport p r).zones[w.pumps[p].deliveryZone].settleTimer =
         (if w.zones[w.pumps[p].deliveryZone].settleTime = 0 then .idle
          else .running w.now (w.zones[w.pumps[p].deliveryZone].settleTime * 10)) ∧
       ∀ q : PumpId, q ≠ p → (w.takeReport p r).pumps[q] = w.pumps[q])

/-! ### The demand arithmetic (R22 to R28, R35 to R37, R43) -/

/-- The slope base and the trend that a reading decides, case by case in the order of the rule (R22 to
R24). The raw slope is the quotient truncated toward zero and held to 16 bits (R23): its magnitude is
the largest whole number that the exact quotient reaches, its sign the sign of the change. The
smoothed trend lies between the old trend and the slope, both included, and with a shift of 0 is the
slope (R24). -/
def Obligations.TrendArithmetic : Prop :=
  (∀ (z : Zone) (level : Nat) (q : Quality) (t : Count),
     (z.slopeBase = none → slopeDecision z level q t = (some ⟨level, t⟩, 0)) ∧
     ∀ b : SlopeBase, z.slopeBase = some b →
       (q = .suspect → slopeDecision z level q t = (some b, z.trend)) ∧
       (q ≠ .suspect → z.staleLimit * 10 < (t - b.time).toNat →
         slopeDecision z level q t = (some ⟨level, t⟩, 0)) ∧
       (q ≠ .suspect → (t - b.time).toNat ≤ z.staleLimit * 10 → (t - b.time).toNat < 20 →
         slopeDecision z level q t = (some b, z.trend)) ∧
       (q ≠ .suspect → (t - b.time).toNat ≤ z.staleLimit * 10 → 20 ≤ (t - b.time).toNat →
         slopeDecision z level q t = (some ⟨level, t⟩,
           z.trend + (rawSlope level b.level (t - b.time).toNat - z.trend) / 2 ^ z.smoothing))) ∧
  (∀ (level base dt : Nat), 0 < dt →
     (base ≤ level → rawSlope level base dt = min 32767 (((level - base) * 9600 / dt : Nat) : Int)) ∧
       (level ≤ base →
         rawSlope level base dt = max (-32768) (-(((base - level) * 9600 / dt : Nat) : Int)))) ∧
  (∀ (trend slope : Int) (k : Nat),
     min trend slope ≤ smoothTrend trend slope k ∧ smoothTrend trend slope k ≤ max trend slope ∧
       smoothTrend trend slope 0 = slope)

/-- An evaluation on a reading outside AUTONOMOUS (R21 to R26): slope base and trend as decided, the
forecast stored, a collapsed band flagged, and the call, the step timer, the pumps and the queue left
as they stand. An evaluation on a reading in AUTONOMOUS (R27, R28, R30): the call is lowered to the
available count, then stepped against the effective band if the step timer is idle, which starts the
timer; the zone's pumps are then reconciled with it, which leaves the call as it is. The step of the
call (R28): with the step timer idle it rises by one below the band while a pump more is available,
falls by one above the band while it is above 0, and then the step timer starts; otherwise nothing
changes. Reconciliation (R30 to R32): the active pumps of the zone come nearer to its call and never
pass it. The start candidate is the OFF pump, reported available, of an ONLINE house, without inhibit,
that has run least, the lowest number among equals; the first of a shortfall joins the queue with
origin DEMAND and the zone's demand priority. Of a surplus, the QUEUED pump latest in the queue goes
first, else the RUNNING pump without a stop pending that has run most, the highest number among
equals. -/
def Obligations.DemandEvaluationTaken : Prop :=
  (∀ (w : Work) (z : ZoneId) (level : Nat) (q : Quality) (t : Count),
     w.authority.mode ≠ .autonomous →
       (w.evaluateReading z level q t).zones[z] = { w.zones[z] with
         slopeBase := (slopeDecision w.zones[z] level q t).1
         trend := (slopeDecision w.zones[z] level q t).2
         forecast := some (forecastOf level (slopeDecision w.zones[z] level q t).2
           w.zones[z].horizon) } ∧
       (∀ y : ZoneId, y ≠ z → (w.evaluateReading z level q t).zones[y] = w.zones[y]) ∧
       (w.evaluateReading z level q t).pumps = w.pumps ∧
       (w.evaluateReading z level q t).queue = w.queue ∧
       (shiftLevel w.zones[z].stopLevel w.offset ≤ shiftLevel w.zones[z].startLevel w.offset →
         (w.evaluateReading z level q t).events.isLatched (.zone .thresholdCollapse z) = true)) ∧
  (∀ (w : Work) (z : ZoneId) (level : Nat) (q : Quality) (t : Count) (f bound : Nat),
     w.authority.mode = .autonomous →
     shiftLevel w.zones[z].startLevel w.offset < shiftLevel w.zones[z].stopLevel w.offset →
     f = forecastOf level (slopeDecision w.zones[z] level q t).2 w.zones[z].horizon →
     bound = min w.zones[z].call (w.availableCount z) →
       (w.evaluateReading z level q t).zones[z].forecast = some f ∧
       ((w.zones[z].stepTimer ≠ .idle ∨
           (shiftLevel w.zones[z].startLevel w.offset ≤ f ∨ w.availableCount z ≤ bound) ∧
           (f ≤ shiftLevel w.zones[z].stopLevel w.offset ∨ bound = 0)) →
         (w.evaluateReading z level q t).zones[z].call = bound ∧
           (w.evaluateReading z level q t).zones[z].stepTimer = w.zones[z].stepTimer) ∧
       (w.zones[z].stepTimer = .idle → f < shiftLevel w.zones[z].startLevel w.offset →
         bound < w.availableCount z →
           (w.evaluateReading z level q t).zones[z].call = bound + 1 ∧
             (w.evaluateReading z level q t).zones[z].stepTimer =
               .running w.now (w.zones[z].stepDelay * 10)) ∧
       (w.zones[z].stepTimer = .idle → shiftLevel w.zones[z].stopLevel w.offset < f → 0 < bound →
         (w.evaluateReading z level q t).zones[z].call = bound - 1 ∧
           (w.evaluateReading z level q t).zones[z].stepTimer =
             .running w.now (w.zones[z].stepDelay * 10)) ∧
       ∀ y : ZoneId, y ≠ z → (w.evaluateReading z level q t).zones[y] = w.zones[y]) ∧
  (∀ (w : Work) (z : ZoneId) (start stop f : Nat), w.zones[z].forecast = some f → start < stop →
     (w.zones[z].stepTimer ≠ .idle → w.stepCall z start stop = w) ∧
     (w.zones[z].stepTimer = .idle →
       (w.stepCall z start stop).zones[z] =
         (if f < start ∧ w.zones[z].call < w.availableCount z then
           { w.zones[z] with
             call := w.zones[z].call + 1
             stepTimer := .running w.now (w.zones[z].stepDelay * 10) }
          else if stop < f ∧ 0 < w.zones[z].call then
           { w.zones[z] with
             call := w.zones[z].call - 1
             stepTimer := .running w.now (w.zones[z].stepDelay * 10) }
          else w.zones[z]) ∧
       ∀ y : ZoneId, y ≠ z → (w.stepCall z start stop).zones[y] = w.zones[y])) ∧
  (∀ (w : Work) (z : ZoneId),
     (w.activeCount z ≤ w.zones[z].call →
       w.activeCount z ≤ (w.reconcile z).activeCount z ∧
         (w.reconcile z).activeCount z ≤ w.zones[z].call) ∧
     (w.zones[z].call ≤ w.activeCount z →
       w.zones[z].call ≤ (w.reconcile z).activeCount z ∧
         (w.reconcile z).activeCount z ≤ w.activeCount z) ∧
     (w.activeCount z = w.zones[z].call → w.reconcile z = w) ∧
     (∀ p, w.startCandidate z = some p →
       w.demandCandidate z p ∧ ∀ q : PumpId, w.demandCandidate z q →
         w.pumps[p].runTime < w.pumps[q].runTime ∨
           (w.pumps[p].runTime = w.pumps[q].runTime ∧ p ≤ q)) ∧
     (w.startCandidate z = none → ∀ q : PumpId, ¬w.demandCandidate z q) ∧
     (w.activeCount z + 1 = w.zones[z].call →
       (∀ p, w.startCandidate z = some p →
         (w.queue.length < 16 → (w.reconcile z).pumps[p].state = .queued ∧
           (w.reconcile z).queue = insertEntry
             { pump := p, origin := .demand, priority := w.zones[z].demandPriority,
               entered := w.now, bypass := 0 } w.queue) ∧
         (16 ≤ w.queue.length → (w.reconcile z).pumps = w.pumps ∧
           (w.reconcile z).events.isLatched (.part .queueFull) = true)) ∧
       (w.startCandidate z = none → w.reconcile z = w)) ∧
     (w.zones[z].call + 1 = w.activeCount z →
       (∀ p, (w.queue.filter fun e => w.supplies z e.pump).getLast?.map QueueEntry.pump = some p →
         w.pumps[p].state = .queued →
           (w.reconcile z).queue = (w.queue.filter fun e => e.pump != p) ∧
             (w.reconcile z).pumps[p].state =
               (if w.pumps[p].lockout.isEmpty then .off else .locked) ∧
             ∀ q : PumpId, q ≠ p → (w.reconcile z).pumps[q] = w.pumps[q]) ∧
       ((∀ e ∈ w.queue, w.supplies z e.pump = false) →
         ∀ p : PumpId, w.sheds z p → (∀ q : PumpId, w.sheds z q →
             w.pumps[q].runTime < w.pumps[p].runTime ∨
               (w.pumps[q].runTime = w.pumps[p].runTime ∧ q ≤ p)) →
           ((w.reconcile z).pumps[p].state = .stopping ∨
             (w.reconcile z).pumps[p] = { w.pumps[p] with stopPending := true }) ∧
           ∀ q : PumpId, q ≠ p → (w.reconcile z).pumps[q].state = w.pumps[q].state)))

/-- The charge of a pump on its feeder, by its state and its last report (R35): the start charge,
rounded up, while STARTING, the rated load while RUNNING or STOPPING or while another state is
reported running, and else nothing. The speed a profile point commands (R43): the trimmed speed
rounded half up, held between the pump's bounds. -/
def Obligations.ChargeAndCommandSpeed : Prop :=
  (∀ x : Pump,
     (x.configured = false → x.charge = 0) ∧
     (x.configured = true →
       (x.state = .starting → x.charge * 8 < x.ratedLoad * x.inrush + 8 ∧
         x.ratedLoad * x.inrush ≤ x.charge * 8) ∧
       (x.state = .starting → 1 ≤ x.ratedLoad → x.ratedLoad ≤ 2000 → 8 ≤ x.inrush → x.inrush ≤ 48 →
         1 ≤ x.charge ∧ x.charge ≤ 12000) ∧
       (x.state = .running ∨ x.state = .stopping → x.charge = x.ratedLoad) ∧
       (x.state = .off ∨ x.state = .queued → x.charge = 0) ∧
       (x.state = .unknown ∨ x.state = .locked ∨ x.state = .unavailable →
         x.charge = if x.reportsRunning then x.ratedLoad else 0))) ∧
  (∀ (x : Pump) (v : Nat), x.minSpeed ≤ x.maxSpeed →
     x.minSpeed ≤ x.commandSpeed v ∧ x.commandSpeed v ≤ x.maxSpeed ∧
       ∀ n : Nat, x.minSpeed ≤ n → n ≤ x.maxSpeed →
         32 * n ≤ v * x.speedTrim + 16 → v * x.speedTrim + 16 < 32 * (n + 1) →
           x.commandSpeed v = n)

/-! ### Requests for a pump (R54, R60, R61, R71, R72, R74, R124) -/

/-- A request that the mode gate or the pump's state turns away is answered so and does nothing else:
an unconfigured pump BAD_INDEX, CONFIG NOT_RUNNING_MODE, START in AUTONOMOUS NOT_SUPERVISED, a second
START DUPLICATE, a START with the queue full QUEUE_FULL, a SPEED of a pump not RUNNING BUSY or
NOT_RUNNING (R60, R71, R72, R124, R157). A START of a pump that is neither OFF nor QUEUED is answered
by its state (R61): DONE for STARTING and RUNNING, a stop pending cleared, BUSY for STOPPING, LOCKED,
and UNAVAILABLE for UNKNOWN and UNAVAILABLE. The reply to a request given as a command of its own is
the model's choice (notes/assumptions/20.md). -/
def Obligations.RequestsTurnedAway : Prop :=
  ∀ (p : PumpId) (b : Byte) (c : Instr) (s : State),
    (c = .start p b ∨ c = .stop p ∨ c = .speed p b →
      (s.pumps[p].configured = false →
        exec c s = .next (s.answering kindPumpSet (Answer.of .badIndex))) ∧
      (s.pumps[p].configured = true → s.authority.mode = .config →
        exec c s = .next (s.answering kindPumpSet (Answer.of .notRunningMode)))) ∧
    (c = .start p b → s.pumps[p].configured = true →
      (s.authority.mode = .autonomous →
        exec c s = .next (s.answering kindPumpSet (Answer.of .notSupervised))) ∧
      (s.authority.mode = .supervised → s.pumps[p].state = .queued →
        exec c s = .next (s.answering kindPumpSet (Answer.of .duplicate))) ∧
      (s.authority.mode = .supervised → s.pumps[p].state = .off → 16 ≤ s.queue.length →
        exec c s = .next (s.answering kindPumpSet (Answer.of .queueFull))) ∧
      (s.authority.mode = .supervised →
        (s.pumps[p].state = .starting ∨
            (s.pumps[p].state = .running ∧ s.pumps[p].stopPending = false) →
          exec c s = .next (s.answering kindPumpSet (Answer.of .done))) ∧
        (s.pumps[p].state = .running → s.pumps[p].stopPending = true →
          ∃ t, exec c s = .next t ∧ Answered s t kindPumpSet (Answer.of .done) ∧
            t.pumps = s.pumps.set p { s.pumps[p] with stopPending := false } ∧
            t.queue = s.queue ∧ t.zones = s.zones ∧ t.events = s.events ∧
            t.settled = s.settled) ∧
        (s.pumps[p].state = .stopping →
          exec c s = .next (s.answering kindPumpSet (Answer.of .busy))) ∧
        (s.pumps[p].state = .locked →
          exec c s = .next (s.answering kindPumpSet (Answer.of .locked))) ∧
        (s.pumps[p].state = .unknown ∨ s.pumps[p].state = .unavailable →
          exec c s = .next (s.answering kindPumpSet (Answer.of .unavailable))))) ∧
    (c = .speed p b → s.pumps[p].configured = true → s.authority.mode ≠ .config →
      (s.pumps[p].state = .starting ∨ s.pumps[p].state = .stopping →
        exec c s = .next (s.answering kindPumpSet (Answer.of .busy))) ∧
      (s.pumps[p].state ≠ .starting → s.pumps[p].state ≠ .stopping →
        s.pumps[p].state ≠ .running →
          exec c s = .next (s.answering kindPumpSet (Answer.of .notRunning))))

/-- A STOP of origin CONTROL in SUPERVISED and in AUTONOMOUS, by the state of the pump (R54 to R56,
R74): a QUEUED pump leaves the queue for OFF or LOCKED, a RUNNING pump that may stop is STOPPING, one
that may not and a STARTING pump hold the stop pending, a RUNNING pump with a stop pending keeps it, a
STOPPING pump goes on, and an OFF pump is NOT_RUNNING; an UNKNOWN, LOCKED or UNAVAILABLE pump that its
last report shows running is issued one STOP, its state unchanged, and any other is NOT_RUNNING. In
AUTONOMOUS the demand unit may ask in the same step for a pump that has left the queue (R30). A SPEED
of a RUNNING pump outside CONFIG (R44, R60): it is answered SPEED_SENT, and one telegram with the
speed held between the pump's bounds is issued; no state, set, timer or queue entry changes. The reply
to a request given as a command of its own is the model's choice (notes/assumptions/20.md). -/
def Obligations.StopAndSpeedTaken : Prop :=
  (∀ (p : PumpId) (s : State), s.pumps[p].configured = true → s.authority.mode ≠ .config →
     ∃ t r, exec (.stop p) s = .next t ∧ Answered s t kindPumpSet (Answer.of r) ∧
       t.settled = s.settled ∧
       (s.pumps[p].state = .queued → r = .stopTaken ∧
         ((Work.of s).stopRequest p).2.queue = (s.queue.filter fun e => e.pump != p) ∧
         ((Work.of s).stopRequest p).2.pumps[p].state =
           (if s.pumps[p].lockout.isEmpty then .off else .locked) ∧
         (s.authority.mode = .supervised → (∀ e ∈ t.queue, e.pump ≠ p) ∧
           t.pumps[p].state = if s.pumps[p].lockout.isEmpty then .off else .locked)) ∧
       (s.pumps[p].state = .running → s.pumps[p].stopPending = false → s.stopAllowed p = true →
         r = .stopTaken ∧ t.pumps[p].state = .stopping) ∧
       (s.pumps[p].state = .running → s.pumps[p].stopPending = false → s.stopAllowed p = false →
         r = .stopDeferred ∧ t.pumps[p] = { s.pumps[p] with stopPending := true }) ∧
       (s.pumps[p].state = .running → s.pumps[p].stopPending = true →
         r = .stopDeferred ∧ t.pumps = s.pumps ∧ t.queue = s.queue) ∧
       (s.pumps[p].state = .starting →
         r = .stopDeferred ∧ t.pumps[p] = { s.pumps[p] with stopPending := true }) ∧
       (s.pumps[p].state = .stopping → r = .stopTaken ∧ t.pumps = s.pumps ∧ t.queue = s.queue) ∧
       (s.pumps[p].state = .off → r = .notRunning ∧ t.pumps = s.pumps ∧ t.queue = s.queue) ∧
       (s.pumps[p].state = .unknown ∨ s.pumps[p].state = .locked ∨
           s.pumps[p].state = .unavailable →
         (s.pumps[p].reportsRunning = false →
           r = .notRunning ∧ t.pumps = s.pumps ∧ t.queue = s.queue) ∧
         (s.pumps[p].reportsRunning = true →
           r = .stopTaken ∧ IssuedIn s t p .stop ∧ t.queue = s.queue ∧
             ∀ q : PumpId, t.pumps[q].unissued = s.pumps[q].unissued))) ∧
  (∀ (p : PumpId) (percent : Byte) (s : State), s.pumps[p].configured = true →
     s.authority.mode ≠ .config → s.pumps[p].state = .running →
       ∃ t, exec (.speed p percent) s = .next t ∧
         Answered s t kindPumpSet (Answer.of .speedSent) ∧
         IssuedIn s t p (.speed (clampNat s.pumps[p].minSpeed s.pumps[p].maxSpeed percent.toNat)) ∧
         (∀ q : PumpId, { t.pumps[q] with awaited := none, issuePending := none } =
           { s.pumps[q] with awaited := none, issuePending := none }) ∧
         t.queue = s.queue ∧ t.zones = s.zones ∧ t.interlocks = s.interlocks ∧ t.events = s.events ∧
         t.settled = s.settled)

/-! ### The start queue and the grants (R70, R79 to R84) -/

/-- An entry joins a queue in order behind every entry of equal or higher priority and before the
first of lower (R70). A START of an OFF pump in SUPERVISED with room in the queue (R71): it is
answered QUEUED, and the pump is QUEUED with an entry of origin CONTROL, its priority held to 3 and
its entry time the count; or the evaluation that its entry calls for has granted it, and it is
STARTING with a stamp in its history (R51, R80). The reply to a request given as a command of its own
is the model's choice (notes/assumptions/20.md). -/
def Obligations.StartJoinsQueue : Prop :=
  (∀ (e : QueueEntry) (q : List QueueEntry),
     q.Pairwise (fun x y => y.priority ≤ x.priority) →
       (insertEntry e q).Pairwise (fun x y => y.priority ≤ x.priority) ∧
         ∃ front back, q = front ++ back ∧ insertEntry e q = front ++ e :: back ∧
           (∀ x ∈ front, e.priority ≤ x.priority) ∧ ∀ x ∈ back, x.priority < e.priority) ∧
  (∀ (p : PumpId) (priority : Byte) (s : State), s.pumps[p].configured = true →
     s.authority.mode = .supervised → s.pumps[p].state = .off → s.queue.length < 16 →
       ∃ t, exec (.start p priority) s = .next t ∧
         Answered s t kindPumpSet (Answer.of .queued) ∧
         ((t.pumps[p].state = .queued ∧
             ∃ b, { pump := p, origin := .control, priority := min 3 priority.toNat,
                    entered := s.clock.mono, bypass := b } ∈ t.queue) ∨
           (t.pumps[p].state = .starting ∧
             t.pumps[p].history = s.pumps[p].history ++ [s.clock.mono])) ∧
         t.zones = s.zones ∧ t.interlocks = s.interlocks ∧ t.settled = s.settled)

/-- A grant evaluation keeps to the feeders' budgets (R37, R81, R82): it leaves each feeder's
committed load where it stood or within the effective limit, and of the pumps delivering into a zone
it starts one at most, and none while the zone's settle timer runs or another is STARTING. A ready
entry that fits IS granted, and grants pass entries by (R79, R81 to R84). At the head of the queue, an
entry that meets every condition of R79 is STARTING after the evaluation with a stamp, and gone from
the queue. Of two entries on one feeder, the first failing on budget alone: below the bypass limit, a
second that fits is granted and the first's bypass count rises by one, up to 15; at the limit the
first blocks it, and nothing changes; a second on another feeder is granted and no count rises. -/
def Obligations.GrantsKeepBudgetAndSlot : Prop :=
  (∀ w : Work,
     (∀ f : FeederId, w.evaluateQueue.committed f = w.committed f ∨
       w.evaluateQueue.committed f ≤ w.evaluateQueue.effectiveLimit f) ∧
     (∀ p q : PumpId, w.pumps[p].configured = true → w.pumps[q].configured = true →
       w.pumps[p].deliveryZone = w.pumps[q].deliveryZone →
         w.pumps[p].state ≠ .starting → w.evaluateQueue.pumps[p].state = .starting →
           w.evaluateQueue.pumps[q].state = .starting → p = q) ∧
     ∀ p : PumpId, w.pumps[p].state ≠ .starting → w.evaluateQueue.pumps[p].state = .starting →
       w.pumps[p].state = .queued ∧ w.pumps[p].inhibit = 0 ∧ w.pumps[p].minOffTimer = .idle ∧
         w.pumps[p].history.length < w.pumps[p].startsLimit ∧ w.online (houseOf p) = true ∧
           w.zones[w.pumps[p].deliveryZone].settleTimer = .idle ∧
             w.evaluateQueue.pumps[p].history = w.pumps[p].history ++ [w.now] ∧
               ∀ e ∈ w.evaluateQueue.queue, e.pump ≠ p) ∧
  ((∀ (w : Work) (e : QueueEntry) (rest : List QueueEntry), w.queue = e :: rest →
      w.eligible e.pump → w.budgetHolds e.pump →
        w.evaluateQueue.pumps[e.pump].state = .starting ∧
        (∀ x ∈ w.evaluateQueue.queue, x.pump ≠ e.pump) ∧
        w.evaluateQueue.pumps[e.pump].history = w.pumps[e.pump].history ++ [w.now]) ∧
   (∀ (w : Work) (a b : QueueEntry), w.queue = [a, b] → a.pump ≠ b.pump →
      w.eligible a.pump → ¬w.budgetHolds a.pump → w.eligible b.pump → w.budgetHolds b.pump →
        (w.pumps[a.pump].feeder = w.pumps[b.pump].feeder → a.bypass < w.general.bypassLimit →
          w.evaluateQueue.queue = [{ a with bypass := min 15 (a.bypass + 1) }] ∧
            w.evaluateQueue.pumps[b.pump].state = .starting) ∧
        (w.pumps[a.pump].feeder = w.pumps[b.pump].feeder → w.general.bypassLimit ≤ a.bypass →
          w.evaluateQueue = w) ∧
        (w.pumps[a.pump].feeder ≠ w.pumps[b.pump].feeder →
          w.evaluateQueue.queue = [a] ∧ w.evaluateQueue.pumps[b.pump].state = .starting)))

/-- The end of a wait (R75): before the limit nothing happens; at it QUEUE_TIMEOUT is latched, the
entry leaves and its pump is OFF or LOCKED. In AUTONOMOUS the demand unit may ask for the pump again
in the same step (R30), so the last clause is for the other modes. That an end of a wait before its
time does nothing is the model's choice (notes/assumptions/13.md). -/
def Obligations.QueueWaitEnds : Prop :=
  ∀ (p : PumpId) (s : State),
    ((∀ e, s.entryOf p = some e →
        (s.clock.mono - e.entered).toNat < s.general.waitLimit * 10) →
      exec (.queueWaitEnd p) s = .next s) ∧
    (∀ e, s.entryOf p = some e → s.general.waitLimit * 10 ≤ (s.clock.mono - e.entered).toNat →
      s.pumps[p].state = .queued →
        ∃ t, exec (.queueWaitEnd p) s = .next t ∧
          t.events.isLatched (.pump .queueTimeout p) = true ∧ t.kept = s.kept ∧
          (s.authority.mode ≠ .autonomous → (∀ x ∈ t.queue, x.pump ≠ p) ∧
            t.pumps[p].state = if s.pumps[p].lockout.isEmpty then .off else .locked))

/-! ### Loads (R1, R2, R16, R34, R38, R39, R42, R77, R91, R106, R114, R115, R135, R150, R151, R163, R164) -/

/-- The fields of a zone record in a load (R1, R176): each code writes its field, a value outside the
field's range, or another code, is refused. The checks of a load of field entries, in their order
(R163, R176): a body that is not laid out as field entries of the table, a field the mode keeps from
being loaded, a value outside its field's range or a record that would not be consistent; a body
without entries loads nothing. The place of the layout check is the model's (notes/assumptions/11.md).
PART_LOAD of a zone (R1, R2, R34): refused, it is answered with its result and nothing else; accepted,
it is answered DONE and every field loaded is written. A change of in use or reporter returns the zone
to UNSET with its readings and demand fields forgotten. Else a change of the stale limit times the
running stale timer anew, from the same reading, and one that has passed already makes the zone STALE
at the load with STALE latched; any other load changes no more than the fields. No other zone and
nothing outside the zones is configured. -/
def Obligations.ZoneLoadCheckedAndTaken : Prop :=
  (∀ (x : Zone) (code : Nat) (v : BitVec 32),
     x.setField code v =
       (if code = 1 ∧ v.toNat ≤ 1 then some { x with inUse := v.toNat = 1 }
        else if code = 2 ∧ v.toNat ≤ 62 then some { x with reporter := some (v.setWidth 6) }
        else if code = 2 ∧ v.toNat = 255 then some { x with reporter := none }
        else if code = 3 ∧ v.toNat ≤ 32000 then some { x with startLevel := v.toNat }
        else if code = 4 ∧ v.toNat ≤ 32000 then some { x with stopLevel := v.toNat }
        else if code = 5 ∧ 30 ≤ v.toNat ∧ v.toNat ≤ 3600 then some { x with staleLimit := v.toNat }
        else if code = 6 ∧ v.toNat ≤ 4 then some { x with smoothing := v.toNat }
        else if code = 7 ∧ v.toNat ≤ 120 then some { x with horizon := v.toNat }
        else if code = 8 ∧ 10 ≤ v.toNat ∧ v.toNat ≤ 3600 then some { x with stepDelay := v.toNat }
        else if code = 9 ∧ v.toNat ≤ 600 then some { x with settleTime := v.toNat }
        else if code = 10 ∧ v.toNat ≤ 3 then some { x with demandPriority := v.toNat }
        else none)) ∧
  (∀ (r : Zone) (n : Nat) (may : Nat → Bool) (ok : Zone → Bool) (l : List FieldEntry),
     checkFields r n may Zone.setField ok none = .error .badValue ∧
     checkFields r n may Zone.setField ok (some []) = .ok none ∧
     (l ≠ [] → layoutOk n l = false →
       checkFields r n may Zone.setField ok (some l) = .error .badValue) ∧
     (l ≠ [] → layoutOk n l = true → (∃ e ∈ l, may e.code.toNat = false) →
       checkFields r n may Zone.setField ok (some l) = .error .refusedMode) ∧
     (l ≠ [] → layoutOk n l = true → (∀ e ∈ l, may e.code.toNat = true) →
       (∀ x, writeFields Zone.setField r l = some x → ok x = false) →
         checkFields r n may Zone.setField ok (some l) = .error .badValue) ∧
     (l ≠ [] → layoutOk n l = true → (∀ e ∈ l, may e.code.toNat = true) →
       ∀ x, writeFields Zone.setField r l = some x → ok x = true →
         checkFields r n may Zone.setField ok (some l) = .ok (some x))) ∧
  (∀ (index : Byte) (fields : List FieldEntry) (s : State),
     (16 ≤ index.toNat → exec (.partLoadZone index fields) s =
       .next (s.answering kindPartLoad (Answer.of .badIndex))) ∧
     ∀ z : ZoneId, index.toNat = z.val →
       match checkFields s.zones[z] 10 (fun c => 3 ≤ c || s.inConfig) Zone.setField
         (fun r => r.startLevel < r.stopLevel) (some fields) with
       | .error r => exec (.partLoadZone index fields) s =
           .next (s.answering kindPartLoad (Answer.of r))
       | .ok none => exec (.partLoadZone index fields) s =
           .next (s.answering kindPartLoad (Answer.of .done))
       | .ok (some r) =>
         ∃ t, exec (.partLoadZone index fields) s = .next t ∧
           Answered s t kindPartLoad (Answer.of .done) ∧
           (r.inUse = s.zones[z].inUse → r.reporter = s.zones[z].reporter →
             (r.staleLimit = s.zones[z].staleLimit →
               t = ({ s with zones := s.zones.set z r } : State).answering kindPartLoad
                 (Answer.of .done)) ∧
             (r.staleLimit ≠ s.zones[z].staleLimit →
               ((s.zones[z].staleTimer.retime (r.staleLimit * 10)).due s.now = false →
                 t = ({ s with zones := s.zones.set z { r with
                   staleTimer := s.zones[z].staleTimer.retime (r.staleLimit * 10) } } :
                     State).answering kindPartLoad (Answer.of .done)) ∧
               ((s.zones[z].staleTimer.retime (r.staleLimit * 10)).due s.now = true →
                 t.zones[z].kept = { r.kept with state := .stale, staleTimer := .idle } ∧
                   t.events.isLatched (.zone .stale z) = true))) ∧
           (r.inUse ≠ s.zones[z].inUse ∨ r.reporter ≠ s.zones[z].reporter →
             { t.zones[z] with settleTimer := .idle } = { r with
               state := .unset, level := none, quality := none, lastReading := none
               slopeBase := none, staleTimer := .idle, trend := 0, forecast := none, call := 0
               stepTimer := .idle, settleTimer := .idle }) ∧
           t.zones[z].inUse = r.inUse ∧ t.zones[z].reporter = r.reporter ∧
           t.zones[z].startLevel = r.startLevel ∧ t.zones[z].stopLevel = r.stopLevel ∧
           t.zones[z].staleLimit = r.staleLimit ∧ t.zones[z].smoothing = r.smoothing ∧
           t.zones[z].horizon = r.horizon ∧ t.zones[z].stepDelay = r.stepDelay ∧
           t.zones[z].settleTime = r.settleTime ∧ t.zones[z].demandPriority = r.demandPriority ∧
           t.settled =
             ({ s with zones := s.zones.set z t.zones[z] } : State).settled)

/-- The fields of a house record in a load, and when the record is consistent (R16, R176): a
configured house has an address, which is neither the part's nor that of another configured house.
PART_LOAD of a house (R16 to R18): refused, it changes nothing; accepted, the three fields are
written; a change of configured or address forgets the house's telegrams and its pumps' reports; else
a load that writes the silence limit times the running silence timer anew, from the same report, and
it is idle if that has passed (notes/assumptions/21.md for a limit written as it stands); the comm
state follows from the record, its route and its port. -/
def Obligations.HouseLoadTaken : Prop :=
  (∀ (x : House) (code : Nat) (v : BitVec 32) (h : HouseId) (s : State),
     x.setField code v =
       (if code = 1 ∧ v.toNat ≤ 1 then some { x with configured := v.toNat = 1 }
        else if code = 2 ∧ v.toNat ≤ 62 then some { x with address := some (v.setWidth 6) }
        else if code = 2 ∧ v.toNat = 255 then some { x with address := none }
        else if code = 3 ∧ 10 ≤ v.toNat ∧ v.toNat ≤ 3600 then
          some { x with silenceLimit := v.toNat }
        else none) ∧
     (s.houseConsistent h x = true ↔ (x.configured = true →
       x.address ≠ none ∧ x.address ≠ some s.switch.partAddress ∧
         ∀ k : HouseId, k ≠ h → s.houses[k].configured = true → s.houses[k].address ≠ x.address))) ∧
  (∀ (index : Byte) (fields : List FieldEntry) (s : State),
     (12 ≤ index.toNat → exec (.partLoadHouse index fields) s =
       .next (s.answering kindPartLoad (Answer.of .badIndex))) ∧
     ∀ h : HouseId, index.toNat = h.val →
       match checkFields s.houses[h] 3 (fun c => c = 3 || s.inConfig) House.setField
         (s.houseConsistent h) (some fields) with
       | .error r => exec (.partLoadHouse index fields) s =
           .next (s.answering kindPartLoad (Answer.of r))
       | .ok none => exec (.partLoadHouse index fields) s =
           .next (s.answering kindPartLoad (Answer.of .done))
       | .ok (some r) =>
         ∃ t, exec (.partLoadHouse index fields) s = .next t ∧
           Answered s t kindPartLoad (Answer.of .done) ∧
           (r.configured ≠ s.houses[h].configured ∨ r.address ≠ s.houses[h].address →
             t.houses[h] = { r with
               lastReport := none, silenceTimer := .idle
               comm := s.commFor { r with silenceTimer := .idle } } ∧
               ∀ p : PumpId, houseOf p = h → t.pumps[p].report = none) ∧
           (r.configured = s.houses[h].configured → r.address = s.houses[h].address →
             ∀ timer, timer =
               (if (∃ e ∈ fields, e.code = 3) then
                 if (s.houses[h].silenceTimer.retime (r.silenceLimit * 10)).due s.now then .idle
                 else s.houses[h].silenceTimer.retime (r.silenceLimit * 10)
                else s.houses[h].silenceTimer) →
               t.houses[h] = { r with
                 silenceTimer := timer, comm := s.commFor { r with silenceTimer := timer } } ∧
               ∀ p : PumpId, t.pumps[p].report = s.pumps[p].report) ∧
           (∀ k : HouseId, k ≠ h → t.houses[k] = s.houses[k]) ∧
           (∀ p : PumpId, houseOf p ≠ h → t.pumps[p].kept = s.pumps[p].kept) ∧
           (∀ p : PumpId, { t.pumps[p].kept with report := none } =
             { s.pumps[p].kept with report := none }) ∧
           t.settled = ({ s with houses := t.houses, pumps := t.pumps } : State).settled)

/-- The fields of a pump record in a load (R38, R176): each code writes its field, a value outside the
field's range, or another code, is refused. PART_LOAD of a pump (R34, R38, R39): refused, it changes
nothing, a load that would unconfigure a STARTING or STOPPING pump BUSY (also with a lockout set,
notes/assumptions/11.md) and one with a lockout set LOCKED; accepted, the fields are written. A change
of configured returns every dynamic field of the pump to its cold reset value, its running time kept
and its report absent; else the history keeps its latest stamps, as many as the starts limit. Where
configured or the delivery zone changes, the call of the zones concerned is lowered to the number of
their supplying pumps; no other zone changes. -/
def Obligations.PumpLoadTaken : Prop :=
  (∀ (x : Pump) (code : Nat) (v : BitVec 32),
     (∀ y, x.setField code v = some y → y = { x with
       configured := if code = 1 then decide (v.toNat = 1) else x.configured
       sourceZone := if code = 2 then objectOf 16 v.toNat else x.sourceZone
       deliveryZone := if code = 3 then (objectOf 16 v.toNat).getD 0 else x.deliveryZone
       feeder := if code = 4 then (objectOf 4 v.toNat).getD 0 else x.feeder
       ratedLoad := if code = 5 then v.toNat else x.ratedLoad
       inrush := if code = 6 then v.toNat else x.inrush
       startProfile := if code = 7 then objectOf 8 v.toNat else x.startProfile
       stopProfile := if code = 8 then objectOf 8 v.toNat else x.stopProfile
       speedTrim := if code = 9 then v.toNat else x.speedTrim
       minSpeed := if code = 10 then v.toNat else x.minSpeed
       maxSpeed := if code = 11 then v.toNat else x.maxSpeed
       minRun := if code = 12 then v.toNat else x.minRun
       minOff := if code = 13 then v.toNat else x.minOff
       startsLimit := if code = 14 then v.toNat else x.startsLimit
       startConfirmLimit := if code = 15 then v.toNat else x.startConfirmLimit
       stopConfirmLimit := if code = 16 then v.toNat else x.stopConfirmLimit }) ∧
     ((x.setField code v).isSome = true ↔
       (code = 1 ∧ v.toNat ≤ 1) ∨ (code = 2 ∧ (v.toNat < 16 ∨ v.toNat = 255)) ∨
       (code = 3 ∧ v.toNat < 16) ∨ (code = 4 ∧ v.toNat < 4) ∨
       (code = 5 ∧ 1 ≤ v.toNat ∧ v.toNat ≤ 2000) ∨ (code = 6 ∧ 8 ≤ v.toNat ∧ v.toNat ≤ 48) ∨
       ((code = 7 ∨ code = 8) ∧ (v.toNat < 8 ∨ v.toNat = 255)) ∨
       (code = 9 ∧ 16 ≤ v.toNat ∧ v.toNat ≤ 48) ∨
       ((code = 10 ∨ code = 11) ∧ v.toNat ≤ 100) ∨
       ((code = 12 ∨ code = 13) ∧ v.toNat ≤ 3600) ∨
       (code = 14 ∧ 1 ≤ v.toNat ∧ v.toNat ≤ 12) ∨
       ((code = 15 ∨ code = 16) ∧ 5 ≤ v.toNat ∧ v.toNat ≤ 600))) ∧
  (∀ (index : Byte) (fields : List FieldEntry) (s : State),
     (48 ≤ index.toNat → exec (.partLoadPump index fields) s =
       .next (s.answering kindPartLoad (Answer.of .badIndex))) ∧
     ∀ p : PumpId, index.toNat = p.val →
       match checkFields s.pumps[p] 16 (fun _ => s.inConfig) Pump.setField
         (fun r => r.minSpeed ≤ r.maxSpeed) (some fields) with
       | .error r => exec (.partLoadPump index fields) s =
           .next (s.answering kindPartLoad (Answer.of r))
       | .ok none => exec (.partLoadPump index fields) s =
           .next (s.answering kindPartLoad (Answer.of .done))
       | .ok (some r) =>
         (s.pumps[p].configured = true → r.configured = false →
           (s.pumps[p].state = .starting ∨ s.pumps[p].state = .stopping →
             exec (.partLoadPump index fields) s =
               .next (s.answering kindPartLoad (Answer.of .busy))) ∧
           (s.pumps[p].state ≠ .starting → s.pumps[p].state ≠ .stopping →
             s.pumps[p].lockout.isEmpty = false →
               exec (.partLoadPump index fields) s =
                 .next (s.answering kindPartLoad (Answer.of .locked)))) ∧
         (s.pumps[p].configured = false ∨ r.configured = true ∨
             (s.pumps[p].state ≠ .starting ∧ s.pumps[p].state ≠ .stopping ∧
               s.pumps[p].lockout.isEmpty = true) →
           ∃ t, exec (.partLoadPump index fields) s = .next t ∧
             Answered s t kindPartLoad (Answer.of .done) ∧
             (∀ q : PumpId, q ≠ p → t.pumps[q].kept = s.pumps[q].kept) ∧
             (r.configured = s.pumps[p].configured → t.pumps[p].kept = r.kept ∧
               ∃ started, t.pumps[p].history =
                 s.pumps[p].history.drop (s.pumps[p].history.length - r.startsLimit) ++ started) ∧
             (r.configured ≠ s.pumps[p].configured →
               t.pumps[p] = { r with
                 state := .unknown, lockout := {}, inhibit := 0, stopPending := false
                 issuePending := none, awaited := none, position := none, confirmTimer := .idle
                 dwellTimer := .idle, resendDone := false, minRunTimer := .idle
                 minOffTimer := .idle, tripSeen := false, history := [], report := none
                 runTime := s.pumps[p].runTime }) ∧
             (∀ z : ZoneId, t.zones[z] = { s.zones[z] with
               call :=
                 if (r.configured ≠ s.pumps[p].configured ∨
                       r.deliveryZone ≠ s.pumps[p].deliveryZone) ∧
                     (z = s.pumps[p].deliveryZone ∨ z = r.deliveryZone) then
                   min s.zones[z].call (t.supplying z).length
                 else s.zones[z].call }) ∧
             t.settled = ({ s with pumps := t.pumps } : State).settled))

/-- PART_LOAD of a running time, a profile, a feeder and the control station address (R39, R42, R77,
R150): each acts on its own record and its reply, which goes to the control station that sent the
load; a running time is BUSY while its pump is RUNNING. PART_LOAD of a profile (R42): in CONFIG a list
of at most 12 points, each with a speed of 0 to 100 and a dwell of 1 to 600 tenths, becomes the
profile; a point outside its ranges or a thirteenth point is BAD_VALUE, and a load outside CONFIG
REFUSED_MODE; a profile number above 7 is BAD_INDEX. To which address the reply goes when the load
changes it is the model's choice (notes/assumptions/16.md). -/
def Obligations.SimpleRecordLoadsTaken : Prop :=
  (∀ (index : Byte) (fields : List FieldEntry) (s : State),
     (∀ p : PumpId, index.toNat = p.val → ∀ r, checkFields s.pumps[p] 1 (fun _ => true)
         Pump.setRunTime (fun _ => true) (some fields) = .ok (some r) →
       (s.pumps[p].state = .running → exec (.partLoadRunTime index fields) s =
         .next (s.answering kindPartLoad (Answer.of .busy))) ∧
       (s.pumps[p].state ≠ .running → exec (.partLoadRunTime index fields) s =
         .next (({ s with pumps := s.pumps.set p { s.pumps[p] with runTime := r.runTime } } :
           State).answering kindPartLoad (Answer.of .done)))) ∧
     (∀ f : FeederId, index.toNat = f.val → ∀ r, checkFields s.feeders[f] 1 (fun _ => true)
         Feeder.setField (fun _ => true) (some fields) = .ok (some r) →
       r.limit ≤ 4000 ∧ ∃ t, exec (.partLoadFeeder index fields) s = .next t ∧
         Answered s t kindPartLoad (Answer.of .done) ∧ t.feeders = s.feeders.set f r ∧
         t.settled = ({ s with feeders := s.feeders.set f r } : State).settled) ∧
     (index = 0 → ∀ a, checkFields s.switch.controlAddress 1 (fun _ => s.inConfig) setControlField
         (fun a => a != s.switch.partAddress) (some fields) = .ok (some a) →
       a ≠ 63 ∧ a ≠ s.switch.partAddress ∧ exec (.partLoadSwitch index fields) s =
         .next { s with
           switch := { s.switch with controlAddress := a }
           portC := s.portC.withReply (s.replyTo kindPartLoad (Answer.of .done)) })) ∧
  (∀ (index : Byte) (points : List PointBody) (s : State),
     (8 ≤ index.toNat → exec (.partLoadProfile index points) s =
       .next (s.answering kindPartLoad (Answer.of .badIndex))) ∧
     (index.toNat < 8 → s.authority.mode ≠ .config → exec (.partLoadProfile index points) s =
       .next (s.answering kindPartLoad (Answer.of .refusedMode))) ∧
     (index.toNat < 8 → s.authority.mode = .config →
       (12 < points.length ∨
           ∃ b ∈ points, 100 < b.speed.toNat ∨ b.dwell.toNat < 1 ∨ 600 < b.dwell.toNat) →
         exec (.partLoadProfile index points) s =
           .next (s.answering kindPartLoad (Answer.of .badValue))) ∧
     ∀ i : ProfileId, index.toNat = i.val → s.authority.mode = .config → points.length ≤ 12 →
       (∀ b ∈ points, b.speed.toNat ≤ 100 ∧ 1 ≤ b.dwell.toNat ∧ b.dwell.toNat ≤ 600) →
         exec (.partLoadProfile index points) s =
           .next (({ s with
             profiles := s.profiles.set i
               (points.map fun b => { speed := b.speed.toNat, dwell := b.dwell.toNat }) } :
                 State).answering kindPartLoad (Answer.of .done)))

/-- The fields of an input line, and what an interlock body stands for (R91, R106, R176): each kind of
cause and target takes an object of its sort, a level to 32 000 and a band to 2 000; outside these
there is no content, and a cause NONE gives an empty one. That a bad target or action beside a cause
NONE is refused, and that a level and band beside a cause without them are not judged, is the model's
choice (notes/assumptions/18.md). PART_LOAD of an interlock entry and of an input line (R91, R92,
R106): in CONFIG alone; a content that is not empty replaces the entry's and leaves it enabled or
disabled as it was, an empty one leaves it disabled; an entry left enabled has its field evaluated
afresh from absent, any other has it absent. An accepted line record is the line's. An entry above 31
and a line above 3 are BAD_INDEX. -/
def Obligations.InterlockAndInputLoadsTaken : Prop :=
  ((∀ (x : InputLine) (code : Nat) (v : BitVec 32), x.setField code v =
      (if code = 1 ∧ v.toNat = 0 then some { x with activeLevel := .high }
       else if code = 1 ∧ v.toNat = 1 then some { x with activeLevel := .low }
       else if code = 2 ∧ v.toNat ≤ 1000 ∧ v.toNat % 10 = 0 then
         some { x with filterTime := v.toNat }
       else none)) ∧
   (∀ b : InterlockBody,
      (interlockContent b = none ↔
        5 < b.causeKind.toNat ∨
        ((b.causeKind = 1 ∨ b.causeKind = 2) ∧
          (32000 < b.level.toNat ∨ 2000 < b.band.toNat ∨ 16 ≤ b.causeObject.toNat)) ∨
        (b.causeKind = 3 ∧ 16 ≤ b.causeObject.toNat) ∨
        (b.causeKind = 4 ∧ 4 ≤ b.causeObject.toNat) ∨
        (b.causeKind = 5 ∧ 12 ≤ b.causeObject.toNat) ∨ 5 < b.targetKind.toNat ∨
        (b.targetKind = 0 ∧ 48 ≤ b.targetObject.toNat) ∨
        (b.targetKind = 1 ∧ 12 ≤ b.targetObject.toNat) ∨
        (b.targetKind = 2 ∧ 4 ≤ b.targetObject.toNat) ∨
        ((b.targetKind = 3 ∨ b.targetKind = 4) ∧ 16 ≤ b.targetObject.toNat) ∨
        2 < b.action.toNat) ∧
      (b.causeKind = 0 → interlockContent b = none ∨ interlockContent b = some none) ∧
      ∀ c, interlockContent b = some (some c) →
        (∀ z v w, c.cause = .zoneAtOrBelow z v w ↔
          b.causeKind = 1 ∧ b.causeObject.toNat = z.val ∧ b.level.toNat = v ∧ b.band.toNat = w) ∧
        (∀ z v w, c.cause = .zoneAtOrAbove z v w ↔
          b.causeKind = 2 ∧ b.causeObject.toNat = z.val ∧ b.level.toNat = v ∧ b.band.toNat = w) ∧
        (∀ z, c.cause = .zoneNotLive z ↔ b.causeKind = 3 ∧ b.causeObject.toNat = z.val) ∧
        (∀ l, c.cause = .inputActive l ↔ b.causeKind = 4 ∧ b.causeObject.toNat = l.val) ∧
        (∀ h, c.cause = .houseNotOnline h ↔ b.causeKind = 5 ∧ b.causeObject.toNat = h.val) ∧
        (∀ p, c.target = .pump p ↔ b.targetKind = 0 ∧ b.targetObject.toNat = p.val) ∧
        (∀ h, c.target = .house h ↔ b.targetKind = 1 ∧ b.targetObject.toNat = h.val) ∧
        (∀ f, c.target = .feeder f ↔ b.targetKind = 2 ∧ b.targetObject.toNat = f.val) ∧
        (∀ z, c.target = .supplyZone z ↔ b.targetKind = 3 ∧ b.targetObject.toNat = z.val) ∧
        (∀ z, c.target = .deliveryZone z ↔ b.targetKind = 4 ∧ b.targetObject.toNat = z.val) ∧
        (c.target = .all ↔ b.targetKind = 5) ∧
        (c.action = .tripLatch ↔ b.action = 0) ∧ (c.action = .tripFollow ↔ b.action = 1) ∧
        (c.action = .inhibit ↔ b.action = 2))) ∧
  (∀ (index : Byte) (body : InterlockBody) (fields : List FieldEntry) (s : State),
     (32 ≤ index.toNat → exec (.partLoadInterlock index body) s =
       .next (s.answering kindPartLoad (Answer.of .badIndex))) ∧
     (4 ≤ index.toNat → exec (.partLoadInput index fields) s =
       .next (s.answering kindPartLoad (Answer.of .badIndex))) ∧
     (∀ e : EntryId, index.toNat = e.val →
       (s.authority.mode ≠ .config → exec (.partLoadInterlock index body) s =
         .next (s.answering kindPartLoad (Answer.of .refusedMode))) ∧
       (s.authority.mode = .config → interlockContent body = none →
         exec (.partLoadInterlock index body) s =
           .next (s.answering kindPartLoad (Answer.of .badValue))) ∧
       (s.authority.mode = .config → ∀ content, interlockContent body = some content →
         ∃ t, exec (.partLoadInterlock index body) s = .next t ∧
           Answered s t kindPartLoad (Answer.of .done) ∧ t.interlocks[e].content = content ∧
           (content ≠ none → t.interlocks[e].enabled = s.interlocks[e].enabled) ∧
           (content = none → t.interlocks[e].enabled = false) ∧
           (t.interlocks[e].enabled = false → t.interlocks[e].present = false) ∧
           (t.interlocks[e].enabled = true → ∀ c, content = some c →
             t.interlocks[e].present = s.causeHolds c.cause false) ∧
           (∀ f : EntryId, f ≠ e → t.interlocks[f] = s.interlocks[f]) ∧
           t.settled = ({ s with interlocks := t.interlocks } : State).settled)) ∧
     (∀ l : LineId, index.toNat = l.val → ∀ r, checkFields s.inputs[l] 2 (fun _ => s.inConfig)
         InputLine.setField (fun _ => true) (some fields) = .ok (some r) →
       ∃ t, exec (.partLoadInput index fields) s = .next t ∧
         Answered s t kindPartLoad (Answer.of .done) ∧
         t.inputs[l].activeLevel = r.activeLevel ∧ t.inputs[l].filterTime = r.filterTime ∧
         t.inputs[l].lineLevel = s.inputs[l].lineLevel ∧
         (∀ k : LineId, k ≠ l → t.inputs[k] = s.inputs[k]) ∧
         t.settled = ({ s with inputs := t.inputs } : State).settled))

/-- PART_LOAD of the two banks (R114, R115): ACTIVE in CONFIG alone, NEXT in every mode; an index
other than 0 is BAD_INDEX, a window outside its ranges BAD_VALUE, a thirteenth window BAD_INDEX; a
window takes its place by start minute or replaces the one there, and an empty body clears the bank; a
load of ACTIVE is followed by a selection, and NEXT is then LOADING, or EMPTY once cleared. PLAN_MARK
and PLAN_SWAP (R119): an EMPTY NEXT bank is BAD_CONFIG to mark, another is COMPLETE; a NEXT bank that
is not COMPLETE is NOT_COMPLETE to swap, a COMPLETE one becomes ACTIVE, the new NEXT is EMPTY, and the
window in force is selected; PLAN_SWAPPED is not latched for it. -/
def Obligations.PlanLoadsAndOrdersTaken : Prop :=
  (∀ (index : Byte) (any : Option WindowBody) (body : WindowBody) (s : State),
     (index ≠ 0 →
       exec (.partLoadPlanActive index any) s =
         .next (s.answering kindPartLoad (Answer.of .badIndex)) ∧
       exec (.partLoadPlanNext index any) s =
         .next (s.answering kindPartLoad (Answer.of .badIndex))) ∧
     (windowOf body =
       if body.start.toNat ≤ 1439 ∧ -2000 ≤ body.offset.toInt ∧ body.offset.toInt ≤ 2000 ∧
           50 ≤ body.cap.toNat ∧ body.cap.toNat ≤ 100 then
         some ⟨body.start.toNat, body.offset.toInt, body.cap.toNat⟩
       else none) ∧
     (s.authority.mode ≠ .config → exec (.partLoadPlanActive 0 any) s =
       .next (s.answering kindPartLoad (Answer.of .refusedMode))) ∧
     (windowOf body = none → exec (.partLoadPlanNext 0 (some body)) s =
       .next (s.answering kindPartLoad (Answer.of .badValue))) ∧
     (s.authority.mode = .config → windowOf body = none →
       exec (.partLoadPlanActive 0 (some body)) s =
         .next (s.answering kindPartLoad (Answer.of .badValue))) ∧
     (exec (.partLoadPlanNext 0 none) s =
       .next (({ s with plan := { s.plan with next := [], nextState := .empty } } :
         State).answering kindPartLoad (Answer.of .done))) ∧
     (s.authority.mode = .config → ∃ t, exec (.partLoadPlanActive 0 none) s = .next t ∧
       Answered s t kindPartLoad (Answer.of .done) ∧
       t.plan = { s.plan with active := [], inForce := none } ∧
       t.settled = ({ s with plan := t.plan } : State).settled) ∧
     ∀ x, windowOf body = some x →
       (12 < (insertWindow x s.plan.next).length → exec (.partLoadPlanNext 0 (some body)) s =
         .next (s.answering kindPartLoad (Answer.of .badIndex))) ∧
       ((insertWindow x s.plan.next).length ≤ 12 → exec (.partLoadPlanNext 0 (some body)) s =
         .next (({ s with plan :=
             { s.plan with next := insertWindow x s.plan.next, nextState := .loading } } :
           State).answering kindPartLoad (Answer.of .done))) ∧
       (s.authority.mode = .config → 12 < (insertWindow x s.plan.active).length →
         exec (.partLoadPlanActive 0 (some body)) s =
           .next (s.answering kindPartLoad (Answer.of .badIndex))) ∧
       (s.authority.mode = .config → (insertWindow x s.plan.active).length ≤ 12 →
         ∃ t, exec (.partLoadPlanActive 0 (some body)) s = .next t ∧
           Answered s t kindPartLoad (Answer.of .done) ∧
           t.plan = { s.plan with
             active := insertWindow x s.plan.active, inForce := t.selected } ∧
           t.settled = ({ s with plan := t.plan } : State).settled)) ∧
  (∀ s : State,
     (s.plan.nextState = .empty →
       exec .planMark s = .next (s.answering kindPartOrder (Answer.of .badConfig))) ∧
     (s.plan.nextState ≠ .empty → exec .planMark s =
       .next (({ s with plan := { s.plan with nextState := .complete } } :
         State).answering kindPartOrder (Answer.of .done))) ∧
     (s.plan.nextState ≠ .complete →
       exec .planSwap s = .next (s.answering kindPartOrder (Answer.of .notComplete))) ∧
     (s.plan.nextState = .complete → ∃ t, exec .planSwap s = .next t ∧
       Answered s t kindPartOrder (Answer.of .done) ∧ t.plan.active = s.plan.next ∧
       t.plan.next = [] ∧ t.plan.nextState = .empty ∧ t.plan.inForce = t.selected ∧
       t.events.isLatched (.part .planSwapped) = s.events.isLatched (.part .planSwapped) ∧
       t.settled = ({ s with plan := t.plan } : State).settled))

/-- A window load keeps a bank in strictly increasing order of start minute, holding the new window
and every window of another start minute (R114). The window in force for a minute of the day (R116):
none of an empty bank; the window of the bank with the latest start at or before the minute; or, where
every window starts later, the last of the bank. -/
def Obligations.WindowsKeepOrderAndHold : Prop :=
  (∀ (x : Window) (bank : List Window), bank.Pairwise (fun a b => a.start < b.start) →
     (insertWindow x bank).Pairwise (fun a b => a.start < b.start) ∧
       ∀ y : Window, y ∈ insertWindow x bank ↔ y = x ∨ (y ∈ bank ∧ y.start ≠ x.start)) ∧
  (∀ (bank : List Window) (minute : Nat), BankOk bank →
     (bank = [] → windowAt bank minute = none) ∧
     (∀ x, windowAt bank minute = some x → x ∈ bank) ∧
     (bank ≠ [] → ∃ x, windowAt bank minute = some x ∧
       ((∃ y ∈ bank, y.start ≤ minute) →
         x.start ≤ minute ∧ ∀ y ∈ bank, y.start ≤ minute → y.start ≤ x.start) ∧
       ((∀ y ∈ bank, minute < y.start) → ∀ y ∈ bank, y.start ≤ x.start)))

/-- The fields of a port record and of the general parameters in a load, and of a route entry (R135,
R151, R164, R176): each code writes its field, a listed value by its position; a value outside the
list or range, or another code, is refused. That a line rate and a loss count, which R135 lists as
numbers, are positions is the model's choice (notes/assumptions/31.md). PART_LOAD of a route entry, of
the general parameters and of a port (R151, R164, R135): the record is written; a route changes no
more than the comm states of the houses at its address (R18). A load of the wait limit, be it with the
value held, removes every entry that has waited for it, its pump OFF or LOCKED with QUEUE_TIMEOUT
latched (R75), in AUTONOMOUS before the demand unit may ask again, so the clause is for the other
modes; a load that enables a kind of which a flag is latched is an alert trigger (R169, R170), its
alert offered after the reply. A load of a field port's rate takes the port DOWN with the flush of
R138, and one of port C's waits for the reply. The order of a port load's effects is the model's
choice (notes/assumptions/21.md). -/
def Obligations.RouteGeneralPortLoadsTaken : Prop :=
  (∀ (x : PortRecord) (g : General) (old : Option FieldPort) (code : Nat) (v : BitVec 32),
     x.setField code v =
       (if code = 1 ∧ v.toNat = 0 then some { x with rate := .r9600 }
        else if code = 1 ∧ v.toNat = 1 then some { x with rate := .r19200 }
        else if code = 1 ∧ v.toNat = 2 then some { x with rate := .r38400 }
        else if code = 1 ∧ v.toNat = 3 then some { x with rate := .r76800 }
        else if code = 2 ∧ v.toNat ≤ 3 then some { x with lossCount := 32 * 2 ^ v.toNat }
        else if code = 3 ∧ v.toNat = 0 then some { x with counterClass := .codeViolation }
        else if code = 3 ∧ v.toNat = 1 then some { x with counterClass := .checkFail }
        else if code = 3 ∧ v.toNat = 2 then some { x with counterClass := .length }
        else if code = 3 ∧ v.toNat = 3 then some { x with counterClass := .dropped }
        else if code = 3 ∧ v.toNat = 4 then some { x with counterClass := .allErrors }
        else if code = 3 ∧ v.toNat = 5 then some { x with counterClass := .pattern }
        else if code = 4 ∧ v.toNat = 0 then some { x with latchMode := .auto }
        else if code = 4 ∧ v.toNat = 1 then some { x with latchMode := .manual }
        else none) ∧
     g.setField code v =
       (if code = 1 ∧ 10 ≤ v.toNat ∧ v.toNat ≤ 1800 then some { g with waitLimit := v.toNat }
        else if code = 2 ∧ 1 ≤ v.toNat ∧ v.toNat ≤ 15 then some { g with bypassLimit := v.toNat }
        else if code = 3 ∧ v.toNat ≤ 1 then some { g with fallbackEnabled := v.toNat = 1 }
        else if code = 4 ∧ 10 ≤ v.toNat ∧ v.toNat ≤ 3600 then
          some { g with controlSilenceLimit := v.toNat }
        else if code = 5 ∧ 10 ≤ v.toNat ∧ v.toNat ≤ 3600 then
          some { g with fallbackDelay := v.toNat }
        else if code = 6 ∧ 1 ≤ v.toNat ∧ v.toNat ≤ 60 then some { g with alertHoldoff := v.toNat }
        else if code = 7 ∧ v.toNat ≤ 65535 then some { g with enableSet := v.setWidth 16 }
        else none) ∧
     setRouteField old code v =
       (if code = 1 ∧ v.toNat = 0 then some none
        else if code = 1 ∧ v.toNat = 1 then some (some .f1)
        else if code = 1 ∧ v.toNat = 2 then some (some .f2)
        else none)) ∧
  (∀ (index : Byte) (fields : List FieldEntry) (s : State),
     (∀ i : Fin 64, index.toNat = i.val → ∀ r, checkFields s.switch.route[i] 1 (fun _ => s.inConfig)
         setRouteField (fun r => r.isNone || (i.val != 63 && i.val != s.switch.partAddress.toNat))
           (some fields) = .ok (some r) →
       ∃ t, exec (.partLoadRoute index fields) s = .next t ∧
         Answered s t kindPartLoad (Answer.of .done) ∧
         t.switch = { s.switch with route := s.switch.route.set i r } ∧
         (∀ h : HouseId, { t.houses[h] with comm := .silent } =
           { s.houses[h] with comm := .silent }) ∧
         (∀ h : HouseId, s.houses[h].address ≠ some (BitVec.ofFin i) →
           t.houses[h] = s.houses[h]) ∧
         t.settled = ({ s with switch := t.switch, houses := t.houses } : State).settled) ∧
     (index = 0 → ∀ r, checkFields s.general 7 (fun _ => true) General.setField (fun _ => true)
         (some fields) = .ok (some r) →
       ∃ t, exec (.partLoadGeneral index fields) s = .next t ∧
         Answered s t kindPartLoad (Answer.of .done) ∧ t.general = r ∧
         t.authority.mode = s.authority.mode ∧
         (r.fallbackEnabled = false → t.authority.fallbackTimer = .idle) ∧
         (s.authority.mode ≠ .autonomous → (∃ x ∈ fields, x.code = 1) →
           (∀ e ∈ s.queue, s.pumps[e.pump].state = .queued) →
             ∀ e ∈ s.queue, r.waitLimit * 10 ≤ (s.clock.mono - e.entered).toNat →
               t.events.isLatched (.pump .queueTimeout e.pump) = true ∧
               (∀ x ∈ t.queue, x.pump ≠ e.pump) ∧
               t.pumps[e.pump].state =
                 if s.pumps[e.pump].lockout.isEmpty then .off else .locked) ∧
         (s.authority.mode ≠ .autonomous →
           (∃ x ∈ s.events.latched, s.general.enables x.flag = false ∧ r.enables x.flag = true) →
             AlertTriggered (s.portC.withReply (s.replyTo kindPartLoad (Answer.of .done))) s t) ∧
         t.settled = ({ s with general := r, authority := t.authority } : State).settled) ∧
     (∀ p : Port, portOf index = some p → ∀ r, checkFields (s.port p) 4 (fun _ => true)
         PortRecord.setField (fun _ => true) (some fields) = .ok (some r) →
       r.lossCount = (s.port p).lossCount ∨ (s.port p).intervals < r.lossCount →
         (p ≠ .c → r.rate ≠ (s.port p).rate → (s.port p).holdsBack = false →
           ∃ t, exec (.partLoadPort index fields) s = .next t ∧
             Answered s t kindPartLoad (Answer.of .done) ∧ (t.port p).rate = r.rate ∧
             (t.port p).latchMode = r.latchMode ∧ (t.port p).counterClass = r.counterClass ∧
             (t.port p).state = .down ∧ FlushTaken s t p ∧
             ((s.port p).live ≤ 65535 → (t.port p).live =
               (if r.counterClass = (s.port p).counterClass then r
                else { r with live := 0 }).liveFlushed)) ∧
         (p ≠ .c → r.rate = (s.port p).rate →
           ∃ t, exec (.partLoadPort index fields) s = .next t ∧
             Answered s t kindPartLoad (Answer.of .done) ∧
             t.port p =
               (if r.counterClass = (s.port p).counterClass then r else { r with live := 0 }) ∧
             t.settled = ({ s with portF1 := t.portF1, portF2 := t.portF2 } : State).settled) ∧
         (p = .c → r.rate = (s.port p).rate →
           ∃ t, exec (.partLoadPort index fields) s = .next t ∧ t.settled = s.settled ∧
             AnsweredOn
               (if r.counterClass = s.portC.counterClass then r else { r with live := 0 }) s t
               kindPartLoad (Answer.of .done)) ∧
         (p = .c → r.rate ≠ (s.port p).rate → s.portC.takesOwn = true →
           ∃ t, exec (.partLoadPort index fields) s = .next t ∧
             t.portC.rate = r.rate ∧ t.portC.state = s.portC.state ∧
             AnsweredOn
               (if r.counterClass = s.portC.counterClass then r else { r with live := 0 }) s t
               kindPartLoad { results := [.done], deferred := some .rateChange })))

/-! ### Reads (R165, R177) -/

/-- PART_READ changes no state: its reply is all it leaves. A table that does not exist is BAD_TABLE,
an index outside its table BAD_INDEX, and otherwise the reply is DONE with the contents from the start
position: the number carried, MORE, the bytes before the elements, and the elements, as many as fit
(R165, R177). The contents of a read by table (R165, R177): ten field entries a reply, coded from 1,
with one value for each place of the record in the order of its rules; or the elements of a list, with
their number a reply and the bytes before them. What R177 leaves to be encoded is the model's
(notes/assumptions/12.md, and notes/assumptions/31.md for a line rate and a loss count). The reply to
a read of a feeder, byte by byte (R77, R172, R173, R177): addressed to the control station from the
part, kind 50H, with DONE, four elements, no more to follow, and the limit, the effective limit, the
committed load and the number of pumps STARTING on the feeder as field entries. -/
def Obligations.ReadsAnswerContents : Prop :=
  (∀ (table index position : Byte) (s : State),
     (table = 0 ∨ 19 < table.toNat → exec (.partRead table index position) s =
       .next (s.answering kindPartRead (Answer.of .badTable))) ∧
     (1 ≤ table.toNat → table.toNat ≤ 19 → tableSize table.toNat ≤ index.toNat →
       exec (.partRead table index position) s =
         .next (s.answering kindPartRead (Answer.of .badIndex))) ∧
     (1 ≤ table.toNat → table.toNat ≤ 19 → index.toNat < tableSize table.toNat →
       ∃ x, s.reading table index = .ok x ∧ exec (.partRead table index position) s =
         .next (s.answering kindPartRead
           { results := [.done]
             extra := [byte (min x.perReply (x.elements.length - position.toNat)),
               if x.perReply < x.elements.length - position.toNat then 1 else 0] ++ x.lead ++
               ((x.elements.drop position.toNat).take x.perReply).flatten }))) ∧
  ((∀ l : List Place, (ofPlaces l).lead = [] ∧ (ofPlaces l).perReply = 10 ∧
      (ofPlaces l).elements = (List.range l.length).map fun n =>
        byte (n + 1) :: be32 (l.getD n 0)) ∧
   ∀ (s : State) (z : ZoneId) (h : HouseId) (p : PumpId) (i : ProfileId) (e : EntryId)
     (l : LineId) (q : Port) (a : Fin 64),
     s.reading 1 (byte z.val) = .ok (ofPlaces
       [placeBool s.zones[z].inUse, placeAddress s.zones[z].reporter,
        placeNat s.zones[z].startLevel, placeNat s.zones[z].stopLevel,
        placeNat s.zones[z].staleLimit, placeNat s.zones[z].smoothing,
        placeNat s.zones[z].horizon, placeNat s.zones[z].stepDelay,
        placeNat s.zones[z].settleTime, placeNat s.zones[z].demandPriority,
        placeZoneState s.zones[z].state, placeOpt placeNat s.zones[z].level,
        placeOpt placeQuality s.zones[z].quality, placeOpt id s.zones[z].lastReading,
        placeOpt (fun b => placeNat b.level) s.zones[z].slopeBase,
        placeOpt (fun b => b.time) s.zones[z].slopeBase, placeInt s.zones[z].trend,
        placeOpt placeNat s.zones[z].forecast, placeNat s.zones[z].call,
        placeSeconds s.zones[z].stepTimer s.clock.mono,
        placeSeconds s.zones[z].settleTimer s.clock.mono]) ∧
     s.reading 2 (byte h.val) = .ok (ofPlaces
       [placeBool s.houses[h].configured, placeAddress s.houses[h].address,
        placeNat s.houses[h].silenceLimit, placeComm s.houses[h].comm,
        placeOpt id s.houses[h].lastReport,
        placeSeconds s.houses[h].silenceTimer s.clock.mono]) ∧
     s.reading 3 (byte p.val) = .ok (ofPlaces
       [placeBool s.pumps[p].configured, placeObject s.pumps[p].sourceZone,
        placeNat s.pumps[p].deliveryZone.val, placeNat s.pumps[p].feeder.val,
        placeNat s.pumps[p].ratedLoad, placeNat s.pumps[p].inrush,
        placeObject s.pumps[p].startProfile, placeObject s.pumps[p].stopProfile,
        placeNat s.pumps[p].speedTrim, placeNat s.pumps[p].minSpeed,
        placeNat s.pumps[p].maxSpeed, placeNat s.pumps[p].minRun, placeNat s.pumps[p].minOff,
        placeNat s.pumps[p].startsLimit, placeNat s.pumps[p].startConfirmLimit,
        placeNat s.pumps[p].stopConfirmLimit, placePumpState s.pumps[p].state,
        s.pumps[p].lockout.entries, s.pumps[p].lockout.latched,
        (if s.pumps[p].lockout.failToStart then 1 else 0) +
          (if s.pumps[p].lockout.failToStop then 2 else 0) +
          (if s.pumps[p].lockout.outstationTrip then 4 else 0),
        s.pumps[p].inhibit, placeBool s.pumps[p].stopPending,
        placeCommand s.pumps[p].issuePending,
        placeCommand (s.pumps[p].awaited.map fun x => x.command),
        placePosition s.pumps[p].position, placePausable s.pumps[p].confirmTimer s.clock.mono,
        placePausable s.pumps[p].dwellTimer s.clock.mono, placeBool s.pumps[p].resendDone,
        placeTenths s.pumps[p].minRunTimer s.clock.mono,
        placeTenths s.pumps[p].minOffTimer s.clock.mono, placeBool s.pumps[p].tripSeen,
        placeNat s.pumps[p].history.length, placeOpt id s.pumps[p].history.head?,
        placeNat s.pumps[p].runTime, placeOpt (fun r => placeBool r.running) s.pumps[p].report,
        placeOpt (fun r => placeBool r.available) s.pumps[p].report,
        placeOpt (fun r => placeBool r.tripped) s.pumps[p].report,
        placeOpt (fun r => placeNat r.speed) s.pumps[p].report,
        placeOpt (fun r => r.time) s.pumps[p].report]) ∧
     s.reading 4 (byte p.val) = .ok (ofPlaces [placeNat s.pumps[p].runTime]) ∧
     s.reading 5 (byte i.val) = .ok (ofPlaces (placeNat s.profiles[i].length ::
       s.profiles[i].flatMap fun x => [placeNat x.speed, placeNat x.dwell])) ∧
     (s.interlocks[e].content = none → s.reading 7 (byte e.val) = .ok (ofPlaces
       [placeBool s.interlocks[e].enabled, 0, 0, 0, 0, 0, 0, 0,
        placeBool s.interlocks[e].present])) ∧
     (∀ c, s.interlocks[e].content = some c → s.reading 7 (byte e.val) = .ok (ofPlaces
       ([placeBool s.interlocks[e].enabled] ++ c.cause.places ++ c.target.places ++
         [c.action.place, placeBool s.interlocks[e].present]))) ∧
     s.reading 8 (byte l.val) = .ok (ofPlaces
       [placeLevel s.inputs[l].activeLevel, placeNat s.inputs[l].filterTime,
        placeLevel s.inputs[l].lineLevel, placeAccepted s.inputs[l].accepted,
        placeBool (s.inputs[l].accepted = none ∨
          s.inputs[l].accepted = some s.inputs[l].activeLevel)]) ∧
     s.reading 9 0 = .ok
       { lead := [s.plan.nextState.byte], elements := s.plan.active.map Window.bytes
         perReply := 10 } ∧
     s.reading 10 0 = .ok
       { lead := [s.plan.nextState.byte], elements := s.plan.next.map Window.bytes
         perReply := 10 } ∧
     s.reading 11 (byte a.val) = .ok
       { lead := [], elements := s.switch.route.toList.map fun x => [routeByte x]
         perReply := 51 } ∧
     s.reading 12 0 = .ok (ofPlaces
       [s.switch.partAddress.setWidth 32, s.switch.controlAddress.setWidth 32,
        placeNat s.switch.rejected, placeNat s.switch.misdirected, placeNat s.switch.unrouted]) ∧
     s.reading 13 (byte (portNumber q)) = .ok (ofPlaces
       ([placeRate (s.port q).rate, placeLossCount (s.port q).lossCount,
         placeClass (s.port q).counterClass, placeLatch (s.port q).latchMode,
         placePortState (s.port q).state, placeNat (s.port q).live, placeNat (s.port q).holding,
         placeNat (s.port q).own.length, placeNat (s.port q).pass.length,
         placeBool (s.port q).insertHeld] ++
         match (s.port q).state, (s.port q).test with
         | .test, some t =>
           [placePattern t.pattern, t.user.setWidth 32, placeBool t.invert, placeNat t.duration,
            placeChecker (s.port q).checker, placeSeconds (s.port q).testTimer s.clock.mono]
         | _, _ => [])) ∧
     s.reading 14 0 = .ok (ofPlaces
       [placeNat s.general.waitLimit, placeNat s.general.bypassLimit,
        placeBool s.general.fallbackEnabled, placeNat s.general.controlSilenceLimit,
        placeNat s.general.fallbackDelay, placeNat s.general.alertHoldoff,
        s.general.enableSet.setWidth 32]) ∧
     s.reading 15 0 = .ok
       { lead := [], perReply := 8
         elements := s.queue.map fun x =>
           [byte x.pump.val, if x.origin = .control then 0 else 1, byte x.priority,
            byte x.bypass] ++ be16Nat ((s.clock.mono - x.entered).toNat / 10) } ∧
     s.reading 16 0 = .ok (ofPlaces
       ([placeNat s.clock.timeOfDay, s.clock.dayCount.setWidth 32, placeBool s.clock.timeValid,
         s.clock.mono, placeNat (s.clock.timeOfDay / 60), placeNat (s.clock.timeOfDay / 3600)] ++
         match s.plan.inForce with
         | none => [absent, absent, absent]
         | some x => [placeNat x.start, placeInt x.offset, placeNat x.cap])) ∧
     s.reading 17 0 = .ok (ofPlaces
       [placeMode s.authority.mode, placeBool s.general.fallbackEnabled,
        placeNat s.general.controlSilenceLimit, placeNat s.general.fallbackDelay,
        placeBool s.authority.present, placeSeconds s.authority.silenceTimer s.clock.mono,
        placeSeconds s.authority.fallbackTimer s.clock.mono]) ∧
     s.reading 18 0 = .ok
       { lead := be16 s.general.enableSet, perReply := 7
         elements := s.events.latched.map fun x =>
           [byte (x.flag.kindIndex + 1), x.flag.object] ++ be32 x.count ++
             [if s.general.enableSet.getLsbD x.flag.kindIndex then 1 else 0] } ∧
     s.reading 19 0 = .ok (ofPlaces [placeNat s.tracker.mismatch, placeNat s.tracker.unknown])) ∧
  (∀ (f : FeederId) (s : State), s.portC.takesOwn = true →
     ∃ t body, exec (.partRead 6 (byte f.val) 0) s = .next t ∧
       body = [s.switch.controlAddress.setWidth 8, s.switch.partAddress.setWidth 8, 0x50, 25,
           0x41, 1, 0, 4, 0] ++
         (1 :: be32 (BitVec.ofNat 32 s.feeders[f].limit)) ++
         (2 :: be32 (BitVec.ofNat 32 (s.effectiveLimit f))) ++
         (3 :: be32 (BitVec.ofNat 32 (s.committed f))) ++
         (4 :: be32 (BitVec.ofNat 32 (allPumps.filter fun p =>
           s.pumps[p].configured && s.pumps[p].feeder == f && s.pumps[p].state == .starting).length)) ∧
       t.portC = { s.portC with
         own := s.portC.own ++ [⟨.reply none, body ++ be16 (checkWord body)⟩] } ∧
       t = { s with portC := t.portC })

/-! ### Orders (R99 to R102, R119, R122 to R129, R144 to R148, R166, R168) -/

/-- RUN (R122, R123): taken in CONFIG alone, with a target of SUPERVISED or AUTONOMOUS, and only if
every record passes; it is answered DONE and the mode is the target, else REFUSED_MODE, BAD_VALUE or
BAD_CONFIG with the record that fails, and nothing else changes. On entry to AUTONOMOUS every zone in
use has its call at the number of its active pumps and its step timer idle, and no pump starts or
stops for it (R33), the queue being empty and no stop pending, as CONFIG leaves them. What RUN
validation passes (R122): each configured pump has its house configured, its delivery zone and any
source zone in use and any profile it names not empty; each configured house has a route; each zone in
use has its start level below its stop level and at most 8 supplying pumps. -/
def Obligations.RunValidatesAndEnters : Prop :=
  (∀ (target : Byte) (s : State),
     (s.authority.mode ≠ .config → exec (.run target) s =
       .next (s.answering kindPartOrder (Answer.of .refusedMode))) ∧
     (s.authority.mode = .config → target ≠ 1 → target ≠ 2 → exec (.run target) s =
       .next (s.answering kindPartOrder (Answer.of .badValue))) ∧
     (s.authority.mode = .config → target = 1 ∨ target = 2 →
       (∀ x, s.validate = some x → exec (.run target) s =
         .next (s.answering kindPartOrder { results := [.badConfig], extra := x.bytes })) ∧
       (s.validate = none → ∃ t, exec (.run target) s = .next t ∧
         Answered s t kindPartOrder (Answer.of .done) ∧
         t.authority.mode = (if target = 1 then .supervised else .autonomous) ∧
         (∀ e : EntryId, t.interlocks[e].kept = s.interlocks[e].kept ∧
           t.interlocks[e].present = s.freshField s.interlocks[e]) ∧
         (s.queue = [] → (∀ p : PumpId, s.pumps[p].stopPending = false) →
           t.queue = [] ∧
           ∀ z : ZoneId, t.zones[z] =
             if target = 2 ∧ s.zones[z].inUse = true then
               { s.zones[z] with call := t.activeCount z, stepTimer := .idle }
             else s.zones[z]) ∧
         t.settled =
           ({ s with authority := t.authority, interlocks := t.interlocks } : State).settled))) ∧
  (∀ s : State, s.validate = none ↔
     (∀ p : PumpId, s.pumps[p].configured = true →
       s.houses[houseOf p].configured = true ∧ s.zones[s.pumps[p].deliveryZone].inUse = true ∧
         (∀ z, s.pumps[p].sourceZone = some z → s.zones[z].inUse = true) ∧
           (∀ i, s.pumps[p].startProfile = some i → s.profiles[i] ≠ []) ∧
             ∀ i, s.pumps[p].stopProfile = some i → s.profiles[i] ≠ []) ∧
     (∀ h : HouseId, s.houses[h].configured = true → s.housePort h ≠ none) ∧
     ∀ z : ZoneId, s.zones[z].inUse = true →
       s.zones[z].startLevel < s.zones[z].stopLevel ∧ (s.supplying z).length ≤ 8)

/-- SUPERVISE, AUTONOMOUS and CONFIG (R126 to R129): refused in CONFIG but for CONFIG itself, which is
BUSY while a configured pump is STARTING or STOPPING; an order for the mode that holds does nothing;
otherwise it is answered DONE and the mode changes. On entry to AUTONOMOUS every zone in use has its
call at the number of its active pumps and its step timer idle, and no pump starts or stops for it; on
leaving it every step timer is idle and the calls stand (R33). CONFIG clears every stop pending, gives up every
issue pending and awaited telegram and empties the field ports' command queues, a telegram in
transmission and the pass queues apart (R46, R55, R129). Where every entry's pump is QUEUED, as R70 has
it, CONFIG empties the queue and SUPERVISE leaves the pumps of CONTROL entries alone in it (R76). -/
def Obligations.ModeOrdersTaken : Prop :=
  ∀ s : State,
    (s.authority.mode = .config →
      exec .supervise s = .next (s.answering kindPartOrder (Answer.of .refusedMode)) ∧
      exec .autonomous s = .next (s.answering kindPartOrder (Answer.of .refusedMode)) ∧
      exec .config s = .next (s.answering kindPartOrder (Answer.of .done))) ∧
    (s.authority.mode = .supervised →
      exec .supervise s = .next (s.answering kindPartOrder (Answer.of .done)) ∧
      ∃ t, exec .autonomous s = .next t ∧ Answered s t kindPartOrder (Answer.of .done) ∧
        t.authority = { s.authority with mode := .autonomous, fallbackTimer := .idle } ∧
        t.settled = ({ s with authority := t.authority } : State).settled ∧
        (∀ z : ZoneId, t.zones[z] =
          if s.zones[z].inUse then
            { s.zones[z] with call := s.activeCount z, stepTimer := .idle }
          else s.zones[z]) ∧
        t.queue = s.queue ∧ t.pumps = s.pumps) ∧
    (s.authority.mode = .autonomous →
      exec .autonomous s = .next (s.answering kindPartOrder (Answer.of .done)) ∧
      ∃ t, exec .supervise s = .next t ∧ Answered s t kindPartOrder (Answer.of .done) ∧
        t.authority.mode = .supervised ∧
        (∀ z : ZoneId, t.zones[z] = { s.zones[z] with stepTimer := .idle }) ∧
        ((∀ e ∈ s.queue, s.pumps[e.pump].state = .queued) →
          ∀ e ∈ t.queue, ∃ x ∈ s.queue, x.pump = e.pump ∧ x.origin = .control) ∧
        t.settled = ({ s with authority := t.authority } : State).settled) ∧
    (s.authority.mode ≠ .config →
      (s.busy = true → exec .config s = .next (s.answering kindPartOrder (Answer.of .busy))) ∧
      (s.busy = false → ∃ t, exec .config s = .next t ∧
        Answered s t kindPartOrder (Answer.of .done) ∧ t.authority.mode = .config ∧
        t.authority.fallbackTimer = .idle ∧
        (∀ p : PumpId, t.pumps[p].stopPending = false) ∧
        ((∀ e ∈ s.queue, s.pumps[e.pump].state = .queued) → t.queue = [] ∧
          (∀ p : PumpId, t.pumps[p] = { s.pumps[p] with
            state :=
              if s.pumps[p].state = .queued ∧ p ∈ s.queue.map QueueEntry.pump then
                (if s.pumps[p].lockout.isEmpty then .off else .locked)
              else s.pumps[p].state
            stopPending := false, issuePending := none, awaited := none }) ∧
          t.portF1 = { s.portF1 with own := [] } ∧ t.portF2 = { s.portF2 with own := [] }) ∧
        (∀ z : ZoneId, t.zones[z] = { s.zones[z] with stepTimer := .idle }) ∧
        t.settled = ({ s with authority := t.authority } : State).settled))

/-- CLEAR_LOCKOUT (R102): a pump above 47 is BAD_INDEX and a member that is none BAD_VALUE; an
internal cause named leaves the set; an entry whose cause is present stays, answered CAUSE_PRESENT; a
member the set does not hold is DONE with nothing changed; ALL takes every internal cause. A LOCKED
pump whose set becomes empty so takes its state from its last report (R67), and in AUTONOMOUS the
demand unit may act on it in the same step (R30). What the removal of a lockout member makes of its
pump (R67): a LOCKED pump whose set becomes empty is UNAVAILABLE if its last report does not offer it
or is absent, adopted RUNNING with its min run timer expired if the report shows it running, and else
OFF, with no flag and its min off timer as it stands; a pump in another state, or whose set keeps a
member, loses the member alone. That a pump above 47 is BAD_INDEX whatever the member is the model's
choice (notes/assumptions/11.md). -/
def Obligations.ClearLockoutTaken : Prop :=
  (∀ (pump member : Byte) (s : State),
     (48 ≤ pump.toNat → exec (.clearLockout pump member) s =
       .next (s.answering kindPartOrder (Answer.of .badIndex))) ∧
     ∀ p : PumpId, pump.toNat = p.val →
       (35 ≤ member.toNat → member.toNat ≤ 254 → exec (.clearLockout pump member) s =
         .next (s.answering kindPartOrder (Answer.of .badValue))) ∧
       (∀ e : EntryId, member.toNat = e.val →
         (s.pumps[p].lockout.entries.getLsbD e.val = false → exec (.clearLockout pump member) s =
           .next (s.answering kindPartOrder (Answer.of .done))) ∧
         (s.pumps[p].lockout.entries.getLsbD e.val = true → s.interlocks[e].enabled = true →
           s.interlocks[e].present = true → exec (.clearLockout pump member) s =
             .next (s.answering kindPartOrder (Answer.of .causePresent))) ∧
         (s.pumps[p].lockout.entries.getLsbD e.val = true →
           s.interlocks[e].enabled = false ∨ s.interlocks[e].present = false →
             ∃ t, exec (.clearLockout pump member) s = .next t ∧
               Answered s t kindPartOrder (Answer.of .done) ∧
               t.pumps[p].lockout = { s.pumps[p].lockout with
                 entries := s.pumps[p].lockout.entries &&& ~~~BitVec.twoPow 32 e.val
                 latched := s.pumps[p].lockout.latched &&& ~~~BitVec.twoPow 32 e.val } ∧
               t.interlocks = s.interlocks ∧ t.settled = s.settled)) ∧
       (member = 32 ∨ member = 33 ∨ member = 34 →
         ∃ t, exec (.clearLockout pump member) s = .next t ∧
           Answered s t kindPartOrder (Answer.of .done) ∧
           t.pumps[p].lockout.failToStart =
             (if member = 32 then false else s.pumps[p].lockout.failToStart) ∧
           t.pumps[p].lockout.failToStop =
             (if member = 33 then false else s.pumps[p].lockout.failToStop) ∧
           t.pumps[p].lockout.outstationTrip =
             (if member = 34 then false else s.pumps[p].lockout.outstationTrip) ∧
           t.pumps[p].lockout.entries = s.pumps[p].lockout.entries ∧ t.settled = s.settled) ∧
       (member = 255 → ∃ t r, exec (.clearLockout pump member) s = .next t ∧
         Answered s t kindPartOrder (Answer.of r) ∧
         t.pumps[p].lockout.failToStart = false ∧ t.pumps[p].lockout.failToStop = false ∧
         t.pumps[p].lockout.outstationTrip = false ∧
         (∀ e : EntryId, t.pumps[p].lockout.entries.getLsbD e.val =
           (s.pumps[p].lockout.entries.getLsbD e.val && s.interlocks[e].enabled &&
             s.interlocks[e].present)) ∧
         (r = .causePresent ↔ ∃ e : EntryId, t.pumps[p].lockout.entries.getLsbD e.val = true) ∧
         t.settled = s.settled) ∧
       (s.authority.mode ≠ .autonomous → s.pumps[p].state = .locked →
         s.pumps[p].lockout.isEmpty = false →
           ∀ t, exec (.clearLockout pump member) s = .next t →
             t.pumps[p].state =
               if t.pumps[p].lockout.isEmpty then s.pumps[p].stateReported else .locked)) ∧
  (∀ (w : Work) (p : PumpId) (m : Member) (x : Pump),
     x = { w.pumps[p] with lockout := w.pumps[p].lockout.remove m } →
     (w.pumps[p].lockout.has m = false → w.removeLockout p m = w) ∧
     (w.removeLockout p m).events = w.events ∧
     (∀ q : PumpId, q ≠ p → (w.removeLockout p m).pumps[q] = w.pumps[q]) ∧
     (w.pumps[p].lockout.has m = true →
       (x.state ≠ .locked ∨ x.lockout.isEmpty = false → (w.removeLockout p m).pumps[p] = x) ∧
       (x.state = .locked → x.lockout.isEmpty = true →
         (x.report = none → (w.removeLockout p m).pumps[p] = { x with state := .unavailable }) ∧
         ∀ r : PumpReport, x.report = some r →
           (r.available = false ∨ r.tripped = true →
             (w.removeLockout p m).pumps[p] = { x with state := .unavailable }) ∧
           (r.available = true → r.tripped = false → r.running = true →
             (w.removeLockout p m).pumps[p] = { x with state := .running, minRunTimer := .idle }) ∧
           (r.available = true → r.tripped = false → r.running = false →
             (w.removeLockout p m).pumps[p] = { x with state := .off }))))

/-- ENABLE_INTERLOCK (R99 to R101): an entry above 31 is BAD_INDEX and a request of neither kind
BAD_VALUE; a request for the state the entry holds does nothing; enabling an empty entry is
BAD_CONFIG; enabled, the cause present field is set by a fresh evaluation from absent; disabled, it is
absent and no pump holds the entry as a FOLLOW or inhibit member. A pump whose lockout set a cause so
found joins anew is taken out of service by its state (R66). What the addition of a lockout member
makes of its pump, by its state (R41, R66): QUEUED it leaves the queue and is LOCKED; OFF, UNKNOWN and
UNAVAILABLE it is LOCKED; STARTING the profile ends, and STARTING, RUNNING, and STOPPING with an empty
set before, it is STOPPING at position STOP with a STOP issued at once and no stop pending; LOCKED, or
STOPPING with members already, the member joins and nothing else changes; a member already held
changes nothing. That an entry above 31 is BAD_INDEX whatever the request is the model's choice
(notes/assumptions/11.md). -/
def Obligations.EnableInterlockTaken : Prop :=
  (∀ (entry request : Byte) (s : State),
     (32 ≤ entry.toNat → exec (.enableInterlock entry request) s =
       .next (s.answering kindPartOrder (Answer.of .badIndex))) ∧
     ∀ e : EntryId, entry.toNat = e.val →
       (2 ≤ request.toNat → exec (.enableInterlock entry request) s =
         .next (s.answering kindPartOrder (Answer.of .badValue))) ∧
       ((request = 0 ∧ s.interlocks[e].enabled = false) ∨
           (request = 1 ∧ s.interlocks[e].enabled = true) →
         exec (.enableInterlock entry request) s =
           .next (s.answering kindPartOrder (Answer.of .done))) ∧
       (request = 1 → s.interlocks[e].enabled = false → s.interlocks[e].content = none →
         exec (.enableInterlock entry request) s =
           .next (s.answering kindPartOrder (Answer.of .badConfig))) ∧
       (request = 1 → s.interlocks[e].enabled = false → ∀ c, s.interlocks[e].content = some c →
         ∃ t, exec (.enableInterlock entry request) s = .next t ∧
           Answered s t kindPartOrder (Answer.of .done) ∧
           t.interlocks[e] =
             { enabled := true, content := some c, present := s.causeHolds c.cause false } ∧
           (∀ f : EntryId, f ≠ e → t.interlocks[f] = s.interlocks[f]) ∧
           (c.action = .inhibit → s.causeHolds c.cause false = true → ∀ p : PumpId,
             t.pumps[p].inhibit.getLsbD e.val =
               (s.pumps[p].inhibit.getLsbD e.val || s.covers c.target p)) ∧
           (c.action ≠ .inhibit → s.causeHolds c.cause false = true → ∀ p : PumpId,
             t.pumps[p].lockout.entries.getLsbD e.val =
               (s.pumps[p].lockout.entries.getLsbD e.val || s.covers c.target p)) ∧
           (c.action ≠ .inhibit → s.causeHolds c.cause false = true → ∀ p : PumpId,
             s.covers c.target p = true → s.pumps[p].lockout.entries.getLsbD e.val = false →
               TakenOutOfService s t p) ∧
           t.settled = ({ s with interlocks := t.interlocks } : State).settled) ∧
       (request = 0 → s.interlocks[e].enabled = true →
         ∃ t, exec (.enableInterlock entry request) s = .next t ∧
           Answered s t kindPartOrder (Answer.of .done) ∧
           t.interlocks[e] = { s.interlocks[e] with enabled := false, present := false } ∧
           (∀ f : EntryId, f ≠ e → t.interlocks[f] = s.interlocks[f]) ∧
           (∀ p : PumpId, t.pumps[p].inhibit.getLsbD e.val = false ∧
             t.pumps[p].lockout.hasFollow e = false ∧
             t.pumps[p].lockout.entries.getLsbD e.val =
               (s.pumps[p].lockout.entries.getLsbD e.val &&
                 s.pumps[p].lockout.latched.getLsbD e.val)) ∧
           t.settled = ({ s with interlocks := t.interlocks } : State).settled)) ∧
  (∀ (w : Work) (p : PumpId) (m : Member) (tag : Tag) (x : Pump),
     x = { w.pumps[p] with lockout := w.pumps[p].lockout.add m tag } →
     (w.pumps[p].lockout.has m = true → w.addLockout p m tag = w) ∧
     (∀ q : PumpId, q ≠ p →
       (w.addLockout p m tag).pumps[q].unissued = w.pumps[q].unissued) ∧
     (w.pumps[p].lockout.has m = false →
       (x.state = .queued → (w.addLockout p m tag).pumps[p] = { x with state := .locked } ∧
         (w.addLockout p m tag).queue = w.queue.filter fun e => e.pump != p) ∧
       (x.state = .off ∨ x.state = .unknown ∨ x.state = .unavailable →
         (w.addLockout p m tag).pumps[p] = { x with state := .locked }) ∧
       (x.state = .locked ∨ (x.state = .stopping ∧ w.pumps[p].lockout.isEmpty = false) →
         (w.addLockout p m tag).pumps[p] = x) ∧
       (x.state = .starting ∨ x.state = .running ∨
           (x.state = .stopping ∧ w.pumps[p].lockout.isEmpty = true) →
         IssuedIn w.toState (w.addLockout p m tag).toState p .stop) ∧
       (x.state = .starting → (w.addLockout p m tag).pumps[p].unissued =
         { x.unissued with
           state := .stopping, stopPending := false, position := some .stop, resendDone := false
           confirmTimer := .idle, dwellTimer := .idle }) ∧
       (x.state = .running → (w.addLockout p m tag).pumps[p].unissued =
         { x.unissued with
           state := .stopping, stopPending := false, position := some .stop
           resendDone := false }) ∧
       (x.state = .stopping → w.pumps[p].lockout.isEmpty = true →
         (w.addLockout p m tag).pumps[p].unissued = { x.unissued with
           stopPending := false, position := some .stop, resendDone := false
           confirmTimer := .idle, dwellTimer := .idle })))

/-- The flag that CLEAR_FLAGS names (R167, R168, R176): kinds 1 to 6 a pump's, 7 to 9 a zone's, 10 and
11 a port's, 12 to 16 the part's, in the order of the table. CLEAR_FLAGS (R168): a kind that is none
is BAD_VALUE and an object outside its sort BAD_INDEX; otherwise the flag, or every flag, leaves the
latch order, the others keeping their places, and REJECTED_TELEGRAMS or ALL sets the five counts to 0;
the alert state stands. -/
def Obligations.ClearFlagsTaken : Prop :=
  ((∀ p : PumpId,
      flagNamed 1 (byte p.val) = .ok (.pump .failToStart p) ∧
      flagNamed 2 (byte p.val) = .ok (.pump .failToStop p) ∧
      flagNamed 3 (byte p.val) = .ok (.pump .outstationTrip p) ∧
      flagNamed 4 (byte p.val) = .ok (.pump .uncommandedRun p) ∧
      flagNamed 5 (byte p.val) = .ok (.pump .uncommandedStop p) ∧
      flagNamed 6 (byte p.val) = .ok (.pump .queueTimeout p)) ∧
   (∀ z : ZoneId,
      flagNamed 7 (byte z.val) = .ok (.zone .stale z) ∧
      flagNamed 8 (byte z.val) = .ok (.zone .sensorFail z) ∧
      flagNamed 9 (byte z.val) = .ok (.zone .thresholdCollapse z)) ∧
   (∀ q : Port,
      flagNamed 10 (byte (portNumber q)) = .ok (.port .loss q) ∧
      flagNamed 11 (byte (portNumber q)) = .ok (.port .testErrors q)) ∧
   flagNamed 12 0 = .ok (.part .queueFull) ∧ flagNamed 13 0 = .ok (.part .modeFallback) ∧
   flagNamed 14 0 = .ok (.part .planSwapped) ∧ flagNamed 15 0 = .ok (.part .planKept) ∧
   flagNamed 16 0 = .ok (.part .rejectedTelegrams)) ∧
  (∀ (kind object : Byte) (s : State),
     (kind = 0 ∨ (17 ≤ kind.toNat ∧ kind ≠ 255) → exec (.clearFlags kind object) s =
       .next (s.answering kindPartOrder (Answer.of .badValue))) ∧
     ((1 ≤ kind.toNat ∧ kind.toNat ≤ 6 ∧ 48 ≤ object.toNat) ∨
         (7 ≤ kind.toNat ∧ kind.toNat ≤ 9 ∧ 16 ≤ object.toNat) ∨
         (10 ≤ kind.toNat ∧ kind.toNat ≤ 11 ∧ portOf object = none) ∨
         (12 ≤ kind.toNat ∧ kind.toNat ≤ 16 ∧ object ≠ 0) → exec (.clearFlags kind object) s =
       .next (s.answering kindPartOrder (Answer.of .badIndex))) ∧
     (1 ≤ kind.toNat → kind.toNat ≤ 16 →
       (kind.toNat ≤ 6 → object.toNat < 48) → (7 ≤ kind.toNat → kind.toNat ≤ 9 → object.toNat < 16) →
       (10 ≤ kind.toNat → kind.toNat ≤ 11 → portOf object ≠ none) →
       (12 ≤ kind.toNat → object = 0) → ∃ f, flagNamed kind object = .ok f) ∧
     (kind ≠ 255 → ∀ f, flagNamed kind object = .ok f →
       exec (.clearFlags kind object) s = .next { s with
         events := { s.events with latched := s.events.latched.filter fun x => x.flag != f }
         tracker :=
           if f = .part .rejectedTelegrams then { mismatch := 0, unknown := 0 } else s.tracker
         switch :=
           if f = .part .rejectedTelegrams then
             { s.switch with rejected := 0, misdirected := 0, unrouted := 0 }
           else s.switch
         portC := s.portC.withReply (s.replyTo kindPartOrder (Answer.of .done)) }) ∧
     (kind = 255 → exec (.clearFlags kind object) s = .next { s with
       events := { s.events with latched := [] }
       tracker := { mismatch := 0, unknown := 0 }
       switch := { s.switch with rejected := 0, misdirected := 0, unrouted := 0 }
       portC := s.portC.withReply (s.replyTo kindPartOrder (Answer.of .done)) }))

/-- LATCH_COUNTER and INSERT_ERROR (R144, R147): another port than C, F1 and F2 is BAD_INDEX; the live
count moves to the holding count; the next pattern bit is inverted in TEST, and outside it an insertion
is held. Nothing but the port and the reply changes. -/
def Obligations.CounterAndErrorOrdersTaken : Prop :=
  ∀ (port : Byte) (s : State),
    (portOf port = none →
      exec (.latchCounter port) s =
          .next (s.answering kindPartOrder (Answer.of .badIndex)) ∧
        exec (.insertError port) s =
          .next (s.answering kindPartOrder (Answer.of .badIndex))) ∧
    ∀ p : Port, portOf port = some p →
      (∃ t, exec (.latchCounter port) s = .next t ∧
        (p ≠ .c → Answered s t kindPartOrder (Answer.of .done) ∧
          t.port p = { s.port p with holding := (s.port p).live, live := 0 }) ∧
        (p = .c → AnsweredOn { s.portC with holding := s.portC.live, live := 0 } s t
          kindPartOrder (Answer.of .done)) ∧
        (∀ q, q ≠ p → q ≠ .c → t.port q = s.port q) ∧
        t = { s with portC := t.portC, portF1 := t.portF1, portF2 := t.portF2 }) ∧
      (∃ t, exec (.insertError port) s = .next t ∧
        (p ≠ .c → Answered s t kindPartOrder (Answer.of .done) ∧
          t.port p =
            (if (s.port p).state = .test then
              { s.port p with generator := { (s.port p).generator with invertNext := true } }
             else { s.port p with insertHeld := true })) ∧
        (p = .c → AnsweredOn
          (if s.portC.state = .test then
            { s.portC with generator := { s.portC.generator with invertNext := true } }
           else { s.portC with insertHeld := true }) s t kindPartOrder (Answer.of .done)) ∧
        (∀ q, q ≠ p → q ≠ .c → t.port q = s.port q) ∧
        t = { s with portC := t.portC, portF1 := t.portF1, portF2 := t.portF2 })

/-- PORT_MODE (R145): a mode that is none or a setting outside its range is BAD_VALUE; NORMAL takes a
port in TEST DOWN and leaves another as it is; TEST flushes a field port and puts it in TEST with its
pattern begun, and for port C waits for the reply; the flush is that of R138, and from UP and in TEST
the count of intervals goes on (R137). The order of the checks is the model's choice
(notes/assumptions/11.md). -/
def Obligations.PortModeTaken : Prop :=
  ∀ (port mode : Byte) (b : TestBody) (s : State),
    (2 ≤ mode.toNat → exec (.portMode port mode b) s =
      .next (s.answering kindPartOrder (Answer.of .badValue))) ∧
    (mode.toNat ≤ 1 → portOf port = none → exec (.portMode port mode b) s =
      .next (s.answering kindPartOrder (Answer.of .badIndex))) ∧
    ∀ p : Port, portOf port = some p →
      (mode = 0 → (s.port p).state ≠ .test → exec (.portMode port mode b) s =
        .next (s.answering kindPartOrder (Answer.of .done))) ∧
      (mode = 0 → (s.port p).state = .test → (s.port p).holdsBack = false →
        ∃ t, exec (.portMode port mode b) s = .next t ∧ (t.port p).state = .down ∧
          FlushTaken s t p ∧ (t.port p).testTimer = .idle ∧
          (p ≠ .c → Answered s t kindPartOrder (Answer.of .done) ∧
            ((s.port p).live ≤ 65535 → (t.port p).live = (s.port p).liveFlushed))) ∧
      (mode = 1 → testSettingsOf b = none → exec (.portMode port mode b) s =
        .next (s.answering kindPartOrder (Answer.of .badValue))) ∧
      (mode = 1 → ∀ x, testSettingsOf b = some x →
        (p = .c → x.duration = 0 → exec (.portMode port mode b) s =
          .next (s.answering kindPartOrder (Answer.of .badValue))) ∧
        (p = .c → x.duration ≠ 0 → s.portC.takesOwn = true → exec (.portMode port mode b) s =
          .next (s.answering kindPartOrder
            { results := [.done], deferred := some (.enterTest x) })) ∧
        (p ≠ .c → (s.port p).holdsBack = false →
          ∃ t, exec (.portMode port mode b) s = .next t ∧
            Answered s t kindPartOrder (Answer.of .done) ∧ (t.port p).state = .test ∧
            (t.port p).test = some x ∧ (t.port p).checker = {} ∧
            (t.port p).generator.register = BitVec.allOnes 15 ∧
            (t.port p).testTimer =
              (if x.duration = 0 then .idle else .running s.clock.mono (x.duration * 10)) ∧
            ((s.port p).state ≠ .down → (t.port p).intervals = (s.port p).intervals) ∧
            ((s.port p).state ≠ .test → FlushTaken s t p ∧
              ((s.port p).live ≤ 65535 → (t.port p).live = (s.port p).liveFlushed) ∧
              (t.port p).insertHeld = false)))

/-- PORT_RESET (R148): a field port is DOWN with its transmit side flushed (R138), its counts 0 and
its held insertion cleared, its parameter record and test settings kept, LOSS not latched; port C's
reset waits for the reply. TEST_TIMER_EXPIRY (R145): in TEST the port leaves for DOWN with the flush
of R138, LOSS not latched; otherwise nothing happens. An expiry that is not due does nothing by the
model's choice (notes/assumptions/13.md). -/
def Obligations.PortResetAndTestExpiryTaken : Prop :=
  (∀ (port : Byte) (s : State),
     (portOf port = none → exec (.portReset port) s =
       .next (s.answering kindPartOrder (Answer.of .badIndex))) ∧
     (portOf port = some .c → s.portC.takesOwn = true → exec (.portReset port) s =
       .next (s.answering kindPartOrder { results := [.done], deferred := some .reset })) ∧
     ∀ p : Port, portOf port = some p → p ≠ .c → (s.port p).holdsBack = false →
       ∃ t, exec (.portReset port) s = .next t ∧ Answered s t kindPartOrder (Answer.of .done) ∧
         (t.port p).state = .down ∧ FlushTaken s t p ∧
         (t.port p).live = 0 ∧ (t.port p).holding = 0 ∧
         (t.port p).insertHeld = false ∧ (t.port p).testTimer = .idle ∧
         (t.port p).rate = (s.port p).rate ∧ (t.port p).lossCount = (s.port p).lossCount ∧
         (t.port p).counterClass = (s.port p).counterClass ∧
         (t.port p).latchMode = (s.port p).latchMode ∧ (t.port p).test = (s.port p).test ∧
         (s.events.isLatched (.port .loss p) = false → t.events.isLatched (.port .loss p) = false)) ∧
  (∀ (p : Port) (s : State),
     ((s.port p).state ≠ .test ∨ (s.port p).testTimer.due s.now = false →
       exec (.testTimerExpiry p) s = .next s) ∧
     ((s.port p).state = .test → (s.port p).testTimer.due s.now = true →
       (s.port p).holdsBack = false → ∃ t, exec (.testTimerExpiry p) s = .next t ∧
         (t.port p).state = .down ∧ FlushTaken s t p ∧
         ((s.port p).live ≤ 65535 → (t.port p).live = (s.port p).liveFlushed) ∧
         (t.port p).testTimer = .idle ∧
         (s.events.isLatched (.port .loss p) = false →
           t.events.isLatched (.port .loss p) = false) ∧
         (∀ q, q ≠ p → (t.port q).kept = (s.port q).kept)))

/-! ### Timers (R11, R17, R29, R51, R52, R55 to R57, R63, R86, R111, R130, R131, R145, R170) -/

/-- STALE_TIMER_EXPIRY (R11): at its expiry the zone is STALE with its timer idle and STALE latched,
its level, quality and last reading kept, and a zone that leaves LIVE so starts the ZONE_NOT_LIVE
causes that watch it, any other none (R95); before it, or on an idle timer, nothing happens.
SILENCE_TIMER_EXPIRY (R17, R18): at its expiry the house's timer is idle and the house SILENT, or
UNREACHABLE without a port that is UP, and one that leaves ONLINE so starts the HOUSE_NOT_ONLINE
causes that watch it, any other none (R95). The confirm and dwell timers of the pumps of a house that
leaves ONLINE are paused, each with its remaining time, no entry watching a house (R62). What the
sequencer makes of a house that leaves or reaches ONLINE (R45, R62): leaving it, the running confirm
and dwell timers of its pumps are paused with their remaining time and nothing is placed; reaching it,
the paused ones run again from there, and the issues pending that its port serves are placed in
ascending pump number while there is room. No other pump's timers change. An expiry that is not due
does nothing by the model's choice (notes/assumptions/13.md). -/
def Obligations.StaleAndSilenceExpiriesTaken : Prop :=
  (∀ (z : ZoneId) (s : State),
     (s.zones[z].staleTimer.due s.now = false → exec (.staleTimerExpiry z) s = .next s) ∧
     (s.zones[z].staleTimer.due s.now = true → ∃ t, exec (.staleTimerExpiry z) s = .next t ∧
       t.zones[z].kept = { s.zones[z].kept with state := .stale, staleTimer := .idle } ∧
       t.events.isLatched (.zone .stale z) = true ∧
       (∀ (e : EntryId) (c : InterlockContent), s.interlocks[e].content = some c →
         s.interlocks[e].enabled = true → c.cause = .zoneNotLive z →
           CauseTaken s t e c
             (if s.zones[z].state = .live then true else s.interlocks[e].present)) ∧
       t.kept = ({ s with
         zones := s.zones.set z
           { s.zones[z] with state := .stale, staleTimer := .idle } } : State).kept)) ∧
  (∀ (h : HouseId) (s : State),
     (s.houses[h].silenceTimer.due s.now = false → exec (.silenceTimerExpiry h) s = .next s) ∧
     (s.houses[h].silenceTimer.due s.now = true → ∃ t, exec (.silenceTimerExpiry h) s = .next t ∧
       t.houses[h] = { s.houses[h] with
         silenceTimer := .idle
         comm := s.commFor { s.houses[h] with silenceTimer := .idle } } ∧
       (∀ k : HouseId, k ≠ h → t.houses[k] = s.houses[k]) ∧
       (∀ (e : EntryId) (c : InterlockContent), s.interlocks[e].content = some c →
         s.interlocks[e].enabled = true → c.cause = .houseNotOnline h →
           CauseTaken s t e c
             (if s.houses[h].comm = .online then true else s.interlocks[e].present)) ∧
       (s.unwatched → s.houses[h].comm = .online → ∀ q : PumpId, t.pumps[q] =
         if houseOf q = h then s.pumps[q].paused s.clock.mono else s.pumps[q]) ∧
       t.kept = ({ s with houses := t.houses } : State).kept)) ∧
  (∀ (w : Work) (h : HouseId),
     (∀ q : PumpId, (w.pauseHouse h false).pumps[q] =
       if houseOf q = h then w.pumps[q].paused w.now else w.pumps[q]) ∧
     (∀ p : Port, (w.pauseHouse h false).port p = w.port p) ∧
     (∀ q : PumpId, (w.pauseHouse h true).pumps[q].unissued =
       if houseOf q = h then (w.pumps[q].resumed w.now).unissued else w.pumps[q].unissued) ∧
     ∀ p : Port, (w.housePort h = some p →
         PendingPlaced w.toState (w.pauseHouse h true).toState p) ∧
       (w.housePort h ≠ some p → (w.pauseHouse h true).port p = w.port p))

/-- STEP_TIMER_EXPIRY (R29): the timer becomes idle; a LIVE zone is evaluated from its band on, which
in AUTONOMOUS bounds the call by the available count (R27), steps it against the stored forecast (R28)
and starts the timer again where it has changed, or flags a collapsed band; another zone's expiry ends
there. The call is then at most what the evaluation made of it, since a pump that it stops can lower
the available count once more (R30). An expiry that is not due does nothing by the model's choice
(notes/assumptions/13.md). -/
def Obligations.StepTimerExpiryTaken : Prop :=
  ∀ (z : ZoneId) (s : State),
    (s.zones[z].stepTimer.due s.now = false → exec (.stepTimerExpiry z) s = .next s) ∧
    (s.zones[z].stepTimer.due s.now = true →
      (s.zones[z].state ≠ .live → exec (.stepTimerExpiry z) s =
        .next { s with zones := s.zones.set z { s.zones[z] with stepTimer := .idle } }) ∧
      (s.zones[z].state = .live →
        shiftLevel s.zones[z].startLevel s.offset < shiftLevel s.zones[z].stopLevel s.offset →
        s.authority.mode ≠ .autonomous → exec (.stepTimerExpiry z) s =
          .next { s with zones := s.zones.set z { s.zones[z] with stepTimer := .idle } }) ∧
      (s.zones[z].state = .live →
        shiftLevel s.zones[z].stopLevel s.offset ≤ shiftLevel s.zones[z].startLevel s.offset →
          ∃ t, exec (.stepTimerExpiry z) s = .next t ∧
            t.zones = s.zones.set z { s.zones[z] with stepTimer := .idle } ∧
            t.events.isLatched (.zone .thresholdCollapse z) = true) ∧
      (s.zones[z].state = .live → s.authority.mode = .autonomous →
        ∀ f, s.zones[z].forecast = some f →
        shiftLevel s.zones[z].startLevel s.offset < shiftLevel s.zones[z].stopLevel s.offset →
          ((Work.of s).stepExpired z).zones[z].call =
            (if f < shiftLevel s.zones[z].startLevel s.offset ∧
                s.zones[z].call < s.availableCount z then s.zones[z].call + 1
             else if shiftLevel s.zones[z].stopLevel s.offset < f then
               min s.zones[z].call (s.availableCount z) - 1
             else min s.zones[z].call (s.availableCount z)) ∧
          ∃ t, exec (.stepTimerExpiry z) s = .next t ∧ t.kept = s.kept ∧
            t.zones[z].call ≤ ((Work.of s).stepExpired z).zones[z].call ∧
            t.zones[z].stepTimer =
              if (f < shiftLevel s.zones[z].startLevel s.offset ∧
                  s.zones[z].call < s.availableCount z) ∨
                (shiftLevel s.zones[z].stopLevel s.offset < f ∧
                  0 < min s.zones[z].call (s.availableCount z)) then
                .running s.clock.mono (s.zones[z].stepDelay * 10)
              else .idle))

/-- DWELL_EXPIRY (R51, R56): the next point of the profile in progress is commanded, and after the
last point of a stop profile STOP is; the dwell timer is idle. An expiry that is not due does nothing
by the model's choice (notes/assumptions/13.md). -/
def Obligations.DwellExpiryTaken : Prop :=
  ∀ (p : PumpId) (s : State),
    (s.pumps[p].dwellTimer.due s.now = false → exec (.dwellExpiry p) s = .next s) ∧
    ∀ n, s.pumps[p].dwellTimer.due s.now = true → s.pumps[p].position = some (.point n) →
      (s.pumps[p].state = .starting →
        ∀ x, (s.profilePoints s.pumps[p].startProfile)[n + 1]? = some x →
          ∃ t, exec (.dwellExpiry p) s = .next t ∧ t.pumps[p].dwellTimer = .idle ∧
            t.pumps[p].position = some (.point (n + 1)) ∧ t.pumps[p].state = .starting ∧
            IssuedIn s t p (.speed (s.pumps[p].commandSpeed x.speed)) ∧ t.kept = s.kept) ∧
      (s.pumps[p].state = .stopping →
        (∀ x, (s.profilePoints s.pumps[p].stopProfile)[n + 1]? = some x →
          ∃ t, exec (.dwellExpiry p) s = .next t ∧ t.pumps[p].dwellTimer = .idle ∧
            t.pumps[p].position = some (.point (n + 1)) ∧
            IssuedIn s t p (.speed (s.pumps[p].commandSpeed x.speed)) ∧ t.kept = s.kept) ∧
        ((s.profilePoints s.pumps[p].stopProfile)[n + 1]? = none →
          ∃ t, exec (.dwellExpiry p) s = .next t ∧ t.pumps[p].dwellTimer = .idle ∧
            t.pumps[p].position = some .stop ∧ IssuedIn s t p .stop ∧ t.kept = s.kept))

/-- START_CONFIRM_EXPIRY and STOP_CONFIRM_EXPIRY (R52, R57): a start not confirmed in time has
FAIL_TO_START latched and in the lockout set, and the pump is STOPPING with STOP issued; a stop not
confirmed is commanded again the first time, and the second time has FAIL_TO_STOP latched and in the
set, and the pump is LOCKED with its min off timer started. An expiry that is not due does nothing by
the model's choice (notes/assumptions/13.md). -/
def Obligations.ConfirmExpiriesTaken : Prop :=
  ∀ (p : PumpId) (s : State),
    (s.pumps[p].confirmTimer.due s.now = false →
      exec (.startConfirmExpiry p) s = .next s ∧ exec (.stopConfirmExpiry p) s = .next s) ∧
    (s.pumps[p].confirmTimer.due s.now = true →
      (s.pumps[p].state = .starting → ∃ t, exec (.startConfirmExpiry p) s = .next t ∧
        t.events.isLatched (.pump .failToStart p) = true ∧ t.pumps[p].state = .stopping ∧
        t.pumps[p].lockout = { s.pumps[p].lockout with failToStart := true } ∧
        IssuedIn s t p .stop ∧ t.kept = s.kept) ∧
      (s.pumps[p].state = .stopping → s.pumps[p].resendDone = false →
        ∃ t, exec (.stopConfirmExpiry p) s = .next t ∧ IssuedIn s t p .stop ∧
          t.pumps[p].resendDone = true ∧ t.pumps[p].confirmTimer = .idle ∧
          t.pumps[p].state = .stopping ∧ t.pumps[p].lockout = s.pumps[p].lockout ∧
          t.kept = s.kept) ∧
      (s.pumps[p].state = .stopping → s.pumps[p].resendDone = true →
        ∃ t, exec (.stopConfirmExpiry p) s = .next t ∧
          t.events.isLatched (.pump .failToStop p) = true ∧ t.pumps[p].state = .locked ∧
          t.pumps[p].lockout = { s.pumps[p].lockout with failToStop := true } ∧
          t.pumps[p].minOffTimer =
            (if s.pumps[p].minOff = 0 then .idle
             else .running s.clock.mono (s.pumps[p].minOff * 10)) ∧
          t.kept = s.kept))

/-- MIN_RUN_EXPIRY, MIN_OFF_EXPIRY and SETTLE_TIMER_EXPIRY (R55, R63, R80, R86): the timer is idle,
and the configuration, the interlocks and the lockout sets stand. At a min run expiry a RUNNING pump
whose stop waited for that timer alone is STOPPING. At a min off expiry a grant evaluation is made: an
entry at the head of the queue that now meets R79 is STARTING. At a settle expiry a grant evaluation
and the test of stops are made: with no stop pending into the zone, an entry at the head that now
meets R79 is STARTING; with an empty queue, the lowest pump into the zone whose stop passes R55 is
STOPPING. An expiry that is not due does nothing by the model's choice (notes/assumptions/13.md), and
which pump a MIN_RUN_EXPIRY tests is named in notes/assumptions/22.md. -/
def Obligations.RestAndSettleExpiriesTaken : Prop :=
  ∀ (p : PumpId) (z : ZoneId) (s : State),
    (s.pumps[p].minRunTimer.due s.now = false → exec (.minRunExpiry p) s = .next s) ∧
    (s.pumps[p].minOffTimer.due s.now = false → exec (.minOffExpiry p) s = .next s) ∧
    (s.zones[z].settleTimer.due s.now = false → exec (.settleTimerExpiry z) s = .next s) ∧
    (s.pumps[p].minRunTimer.due s.now = true → ∃ t, exec (.minRunExpiry p) s = .next t ∧
      t.pumps[p].minRunTimer = .idle ∧ t.kept = s.kept ∧ t.interlocks = s.interlocks ∧
      (s.pumps[p].state = .running → s.pumps[p].stopPending = true →
        s.zones[s.pumps[p].deliveryZone].settleTimer = .idle →
        s.zoneHolds p [.starting, .stopping] = false → t.pumps[p].state = .stopping)) ∧
    (s.pumps[p].minOffTimer.due s.now = true → ∃ t, exec (.minOffExpiry p) s = .next t ∧
      t.pumps[p].minOffTimer = .idle ∧ t.kept = s.kept ∧ t.interlocks = s.interlocks ∧
      (∀ q : PumpId, t.pumps[q].lockout = s.pumps[q].lockout) ∧
      ∀ e rest, s.queue = e :: rest → ∀ u : State,
        u = { s with pumps := s.pumps.set p { s.pumps[p] with minOffTimer := .idle } } →
        u.eligible e.pump → u.budgetHolds e.pump → t.pumps[e.pump].state = .starting) ∧
    (s.zones[z].settleTimer.due s.now = true → ∃ t, exec (.settleTimerExpiry z) s = .next t ∧
      t.zones[z].settleTimer = .idle ∧
      (∀ y : ZoneId, y ≠ z → t.zones[y].settleTimer = s.zones[y].settleTimer) ∧
      t.kept = s.kept ∧ t.interlocks = s.interlocks ∧
      (∀ q : PumpId, t.pumps[q].lockout = s.pumps[q].lockout) ∧
      (∀ e rest, s.queue = e :: rest → (∀ q : PumpId, s.sheds z q ∨ s.supplies z q = false ∨
          s.pumps[q].state ≠ .running) → ∀ u : State,
        u = { s with zones := s.zones.set z { s.zones[z] with settleTimer := .idle } } →
        u.eligible e.pump → u.budgetHolds e.pump → t.pumps[e.pump].state = .starting) ∧
      (s.queue = [] → s.stopPasses z p →
        (∀ q : PumpId, s.stopPasses z q → p ≤ q) → t.pumps[p].state = .stopping))

/-- CONTROL_SILENCE_EXPIRY, FALLBACK_EXPIRY and HOLDOFF_EXPIRY (R130, R131, R170): the control station
is absent and in SUPERVISED with fallback enabled the fallback timer starts; the part falls back to
AUTONOMOUS with MODE_FALLBACK latched and each zone's call at its active pumps (R33); the holdoff
timer is idle, and a pending alert is offered. An expiry that is not due does nothing by the model's
choice (notes/assumptions/13.md). -/
def Obligations.AuthorityAndAlertExpiriesTaken : Prop :=
  ∀ s : State,
    (s.authority.silenceTimer.due s.now = false → exec .controlSilenceExpiry s = .next s) ∧
    (s.authority.fallbackTimer.due s.now = false → exec .fallbackExpiry s = .next s) ∧
    (s.events.holdoff.due s.now = false → exec .holdoffExpiry s = .next s) ∧
    (s.authority.silenceTimer.due s.now = true → exec .controlSilenceExpiry s = .next { s with
      authority := { s.authority with
        silenceTimer := .idle
        present := false
        fallbackTimer :=
          if s.authority.present = true ∧ s.authority.mode = .supervised ∧
              s.general.fallbackEnabled = true ∧ s.authority.fallbackTimer = .idle then
            .running s.clock.mono (s.general.fallbackDelay * 10)
          else s.authority.fallbackTimer } }) ∧
    (s.authority.fallbackTimer.due s.now = true → ∃ t, exec .fallbackExpiry s = .next t ∧
      t.authority = { s.authority with mode := .autonomous, fallbackTimer := .idle } ∧
      t.events.isLatched (.part .modeFallback) = true ∧
      (∀ z : ZoneId, t.zones[z] =
        if s.zones[z].inUse then
          { s.zones[z] with call := s.activeCount z, stepTimer := .idle }
        else s.zones[z]) ∧
      t.pumps = s.pumps ∧ t.queue = s.queue ∧
      t.kept = ({ s with authority := t.authority } : State).kept) ∧
    (s.events.holdoff.due s.now = true → ∃ t, exec .holdoffExpiry s = .next t ∧
      t.events.holdoff = .idle ∧ t.events.latched = s.events.latched ∧
      (s.events.alertPending = true → s.events.alertOutstanding = false → s.alertFlags ≠ [] →
        s.portC.takesOwn = true →
          t.portC = { s.portC with own := s.portC.own ++ [⟨.alert, s.alertBytes⟩] } ∧
            t.events.alertPending = false ∧ t.events.alertOutstanding = true) ∧
      t = { s with events := t.events, portC := t.portC })

/-! ### What every step keeps -/

/-- The state after a cold reset is sound in every sense below. -/
def Obligations.ResetIsSound : Prop :=
  PlanOk State.reset.plan ∧ ClockOk State.reset.clock ∧ CountsOk State.reset ∧
    PortsOk State.reset ∧ QueueOk State.reset ∧ DemandPrioritiesOk State.reset ∧
      LockoutsOk State.reset

/-- Every step keeps both banks in order and within 12 windows, a NEXT bank EMPTY exactly when it
holds no window, and the time of day and its tenths figure within their ranges (R109, R114, R115).
Every step keeps the counts from 0 to 65 535 (R7, R161). -/
def Obligations.StepKeepsPlanClockAndCounts : Prop :=
  (∀ s t : State, PlanOk s.plan → ClockOk s.clock → step s = .next t →
     PlanOk t.plan ∧ ClockOk t.clock) ∧
  (∀ s t : State, CountsOk s → step s = .next t → CountsOk t)

/-- Every step keeps the ports' queues within their capacities, empty with nothing in transmission
while the port is not UP, and the error counts from 0 to 65 535 (R138, R141, R143). -/
def Obligations.StepKeepsPorts : Prop :=
  ∀ s t : State, PortsOk s → step s = .next t → PortsOk t

/-- Every step keeps the start queue at 16 entries or fewer in order of priority, never two for a pump,
a pump QUEUED exactly when the queue holds an entry for it, and the queue empty in CONFIG (R70, R80),
given that demand priorities are 0 to 3, which it keeps too (R1). -/
def Obligations.StepKeepsQueue : Prop :=
  ∀ s t : State, QueueOk s → DemandPrioritiesOk s → step s = .next t →
    QueueOk t ∧ DemandPrioritiesOk t

/-- Every step keeps a pump with a lockout member STOPPING or LOCKED, and a LOCKED pump with a member
(R41). -/
def Obligations.StepKeepsLockouts : Prop :=
  ∀ s t : State, LockoutsOk s → step s = .next t → LockoutsOk t

/-- Outside the loads, the resets and the orders and timers that change it, the configuration stands: in
a run mode no command changes a pump's configuration, a profile, an interlock's content, a route, the
control station address, or a house's, a zone's or a line's fields that only CONFIG may load; and the
ACTIVE bank is left or becomes the NEXT bank in a swap, which only PLAN_SWAP, a day event, a TIME_SET
that finds a day event still to come, or a telegram received can bring; a cold reset apart (R1, R16,
R38, R42, R91, R106, R114, R118, R119, R150, R151). -/
def Obligations.RunModesKeepConfiguration : Prop :=
  ∀ (c : Instr) (s t : State), s.authority.mode ≠ .config → (∀ straps, c ≠ .coldReset straps) →
    exec c s = .next t →
      t.profiles = s.profiles ∧ t.switch.route = s.switch.route ∧
        t.switch.controlAddress = s.switch.controlAddress ∧
        t.switch.partAddress = s.switch.partAddress ∧
        (∀ p : PumpId, { t.pumps[p].kept with runTime := 0, report := none, tripSeen := false } =
          { s.pumps[p].kept with runTime := 0, report := none, tripSeen := false }) ∧
        (∀ e : EntryId, t.interlocks[e].content = s.interlocks[e].content) ∧
        (∀ h : HouseId, t.houses[h].configured = s.houses[h].configured ∧
          t.houses[h].address = s.houses[h].address) ∧
        (∀ z : ZoneId, t.zones[z].inUse = s.zones[z].inUse ∧
          t.zones[z].reporter = s.zones[z].reporter) ∧
        (∀ l : LineId, t.inputs[l].activeLevel = s.inputs[l].activeLevel ∧
          t.inputs[l].filterTime = s.inputs[l].filterTime) ∧
        (t.plan.active = s.plan.active ∨
          (t.plan.active = s.plan.next ∧ s.plan.nextState = .complete)) ∧
        (c ≠ .planSwap → c ≠ .dayEvent → (∀ time day, c ≠ .timeSet time day) →
          (∀ p bytes, c ≠ .receiveCompletion p bytes) → t.plan.active = s.plan.active)
end

