-- ==== Sys2Proof/Laws/State.lean ====
section
/-! SUPPORT. One lemma for each field of the working state under each basic update, and what an update writes. -/

namespace Sys2Proof.Machine

/-! ### setZone -/

@[simp] theorem setZone_houses (w : Work) (z : ZoneId) (r : Zone) :
    (w.setZone z r).houses = w.houses := rfl
@[simp] theorem setZone_tracker (w : Work) (z : ZoneId) (r : Zone) :
    (w.setZone z r).tracker = w.tracker := rfl
@[simp] theorem setZone_pumps (w : Work) (z : ZoneId) (r : Zone) :
    (w.setZone z r).pumps = w.pumps := rfl
@[simp] theorem setZone_profiles (w : Work) (z : ZoneId) (r : Zone) :
    (w.setZone z r).profiles = w.profiles := rfl
@[simp] theorem setZone_queue (w : Work) (z : ZoneId) (r : Zone) :
    (w.setZone z r).queue = w.queue := rfl
@[simp] theorem setZone_feeders (w : Work) (z : ZoneId) (r : Zone) :
    (w.setZone z r).feeders = w.feeders := rfl
@[simp] theorem setZone_interlocks (w : Work) (z : ZoneId) (r : Zone) :
    (w.setZone z r).interlocks = w.interlocks := rfl
@[simp] theorem setZone_inputs (w : Work) (z : ZoneId) (r : Zone) :
    (w.setZone z r).inputs = w.inputs := rfl
@[simp] theorem setZone_clock (w : Work) (z : ZoneId) (r : Zone) :
    (w.setZone z r).clock = w.clock := rfl
@[simp] theorem setZone_plan (w : Work) (z : ZoneId) (r : Zone) :
    (w.setZone z r).plan = w.plan := rfl
@[simp] theorem setZone_general (w : Work) (z : ZoneId) (r : Zone) :
    (w.setZone z r).general = w.general := rfl
@[simp] theorem setZone_authority (w : Work) (z : ZoneId) (r : Zone) :
    (w.setZone z r).authority = w.authority := rfl
@[simp] theorem setZone_events (w : Work) (z : ZoneId) (r : Zone) :
    (w.setZone z r).events = w.events := rfl
@[simp] theorem setZone_switch (w : Work) (z : ZoneId) (r : Zone) :
    (w.setZone z r).switch = w.switch := rfl
@[simp] theorem setZone_portC (w : Work) (z : ZoneId) (r : Zone) :
    (w.setZone z r).portC = w.portC := rfl
@[simp] theorem setZone_portF1 (w : Work) (z : ZoneId) (r : Zone) :
    (w.setZone z r).portF1 = w.portF1 := rfl
@[simp] theorem setZone_portF2 (w : Work) (z : ZoneId) (r : Zone) :
    (w.setZone z r).portF2 = w.portF2 := rfl
@[simp] theorem setZone_serial (w : Work) (z : ZoneId) (r : Zone) :
    (w.setZone z r).serial = w.serial := rfl
@[simp] theorem setZone_choices (w : Work) (z : ZoneId) (r : Zone) :
    (w.setZone z r).choices = w.choices := rfl
@[simp] theorem setZone_pending (w : Work) (z : ZoneId) (r : Zone) :
    (w.setZone z r).pending = w.pending := rfl
@[simp] theorem setZone_agenda (w : Work) (z : ZoneId) (r : Zone) :
    (w.setZone z r).agenda = w.agenda := rfl
@[simp] theorem setZone_replying (w : Work) (z : ZoneId) (r : Zone) :
    (w.setZone z r).replying = w.replying := rfl
@[simp] theorem setZone_offerOwed (w : Work) (z : ZoneId) (r : Zone) :
    (w.setZone z r).offerOwed = w.offerOwed := rfl

/-! ### setHouse -/

@[simp] theorem setHouse_zones (w : Work) (h : HouseId) (r : House) :
    (w.setHouse h r).zones = w.zones := rfl
@[simp] theorem setHouse_tracker (w : Work) (h : HouseId) (r : House) :
    (w.setHouse h r).tracker = w.tracker := rfl
@[simp] theorem setHouse_pumps (w : Work) (h : HouseId) (r : House) :
    (w.setHouse h r).pumps = w.pumps := rfl
@[simp] theorem setHouse_profiles (w : Work) (h : HouseId) (r : House) :
    (w.setHouse h r).profiles = w.profiles := rfl
@[simp] theorem setHouse_queue (w : Work) (h : HouseId) (r : House) :
    (w.setHouse h r).queue = w.queue := rfl
@[simp] theorem setHouse_feeders (w : Work) (h : HouseId) (r : House) :
    (w.setHouse h r).feeders = w.feeders := rfl
@[simp] theorem setHouse_interlocks (w : Work) (h : HouseId) (r : House) :
    (w.setHouse h r).interlocks = w.interlocks := rfl
@[simp] theorem setHouse_inputs (w : Work) (h : HouseId) (r : House) :
    (w.setHouse h r).inputs = w.inputs := rfl
@[simp] theorem setHouse_clock (w : Work) (h : HouseId) (r : House) :
    (w.setHouse h r).clock = w.clock := rfl
@[simp] theorem setHouse_plan (w : Work) (h : HouseId) (r : House) :
    (w.setHouse h r).plan = w.plan := rfl
@[simp] theorem setHouse_general (w : Work) (h : HouseId) (r : House) :
    (w.setHouse h r).general = w.general := rfl
@[simp] theorem setHouse_authority (w : Work) (h : HouseId) (r : House) :
    (w.setHouse h r).authority = w.authority := rfl
@[simp] theorem setHouse_events (w : Work) (h : HouseId) (r : House) :
    (w.setHouse h r).events = w.events := rfl
@[simp] theorem setHouse_switch (w : Work) (h : HouseId) (r : House) :
    (w.setHouse h r).switch = w.switch := rfl
@[simp] theorem setHouse_portC (w : Work) (h : HouseId) (r : House) :
    (w.setHouse h r).portC = w.portC := rfl
@[simp] theorem setHouse_portF1 (w : Work) (h : HouseId) (r : House) :
    (w.setHouse h r).portF1 = w.portF1 := rfl
@[simp] theorem setHouse_portF2 (w : Work) (h : HouseId) (r : House) :
    (w.setHouse h r).portF2 = w.portF2 := rfl
@[simp] theorem setHouse_serial (w : Work) (h : HouseId) (r : House) :
    (w.setHouse h r).serial = w.serial := rfl
@[simp] theorem setHouse_choices (w : Work) (h : HouseId) (r : House) :
    (w.setHouse h r).choices = w.choices := rfl
@[simp] theorem setHouse_pending (w : Work) (h : HouseId) (r : House) :
    (w.setHouse h r).pending = w.pending := rfl
@[simp] theorem setHouse_agenda (w : Work) (h : HouseId) (r : House) :
    (w.setHouse h r).agenda = w.agenda := rfl
@[simp] theorem setHouse_replying (w : Work) (h : HouseId) (r : House) :
    (w.setHouse h r).replying = w.replying := rfl
@[simp] theorem setHouse_offerOwed (w : Work) (h : HouseId) (r : House) :
    (w.setHouse h r).offerOwed = w.offerOwed := rfl

/-! ### setPump -/

@[simp] theorem setPump_zones (w : Work) (p : PumpId) (r : Pump) :
    (w.setPump p r).zones = w.zones := rfl
@[simp] theorem setPump_houses (w : Work) (p : PumpId) (r : Pump) :
    (w.setPump p r).houses = w.houses := rfl
@[simp] theorem setPump_tracker (w : Work) (p : PumpId) (r : Pump) :
    (w.setPump p r).tracker = w.tracker := rfl
@[simp] theorem setPump_profiles (w : Work) (p : PumpId) (r : Pump) :
    (w.setPump p r).profiles = w.profiles := rfl
@[simp] theorem setPump_queue (w : Work) (p : PumpId) (r : Pump) :
    (w.setPump p r).queue = w.queue := rfl
@[simp] theorem setPump_feeders (w : Work) (p : PumpId) (r : Pump) :
    (w.setPump p r).feeders = w.feeders := rfl
@[simp] theorem setPump_interlocks (w : Work) (p : PumpId) (r : Pump) :
    (w.setPump p r).interlocks = w.interlocks := rfl
@[simp] theorem setPump_inputs (w : Work) (p : PumpId) (r : Pump) :
    (w.setPump p r).inputs = w.inputs := rfl
@[simp] theorem setPump_clock (w : Work) (p : PumpId) (r : Pump) :
    (w.setPump p r).clock = w.clock := rfl
@[simp] theorem setPump_plan (w : Work) (p : PumpId) (r : Pump) :
    (w.setPump p r).plan = w.plan := rfl
@[simp] theorem setPump_general (w : Work) (p : PumpId) (r : Pump) :
    (w.setPump p r).general = w.general := rfl
@[simp] theorem setPump_authority (w : Work) (p : PumpId) (r : Pump) :
    (w.setPump p r).authority = w.authority := rfl
@[simp] theorem setPump_events (w : Work) (p : PumpId) (r : Pump) :
    (w.setPump p r).events = w.events := rfl
@[simp] theorem setPump_switch (w : Work) (p : PumpId) (r : Pump) :
    (w.setPump p r).switch = w.switch := rfl
@[simp] theorem setPump_portC (w : Work) (p : PumpId) (r : Pump) :
    (w.setPump p r).portC = w.portC := rfl
@[simp] theorem setPump_portF1 (w : Work) (p : PumpId) (r : Pump) :
    (w.setPump p r).portF1 = w.portF1 := rfl
@[simp] theorem setPump_portF2 (w : Work) (p : PumpId) (r : Pump) :
    (w.setPump p r).portF2 = w.portF2 := rfl
@[simp] theorem setPump_serial (w : Work) (p : PumpId) (r : Pump) :
    (w.setPump p r).serial = w.serial := rfl
@[simp] theorem setPump_choices (w : Work) (p : PumpId) (r : Pump) :
    (w.setPump p r).choices = w.choices := rfl
@[simp] theorem setPump_pending (w : Work) (p : PumpId) (r : Pump) :
    (w.setPump p r).pending = w.pending := rfl
@[simp] theorem setPump_agenda (w : Work) (p : PumpId) (r : Pump) :
    (w.setPump p r).agenda = w.agenda := rfl
@[simp] theorem setPump_replying (w : Work) (p : PumpId) (r : Pump) :
    (w.setPump p r).replying = w.replying := rfl
@[simp] theorem setPump_offerOwed (w : Work) (p : PumpId) (r : Pump) :
    (w.setPump p r).offerOwed = w.offerOwed := rfl

/-! ### setInterlock -/

@[simp] theorem setInterlock_zones (w : Work) (e : EntryId) (r : Interlock) :
    (w.setInterlock e r).zones = w.zones := rfl
@[simp] theorem setInterlock_houses (w : Work) (e : EntryId) (r : Interlock) :
    (w.setInterlock e r).houses = w.houses := rfl
@[simp] theorem setInterlock_tracker (w : Work) (e : EntryId) (r : Interlock) :
    (w.setInterlock e r).tracker = w.tracker := rfl
@[simp] theorem setInterlock_pumps (w : Work) (e : EntryId) (r : Interlock) :
    (w.setInterlock e r).pumps = w.pumps := rfl
@[simp] theorem setInterlock_profiles (w : Work) (e : EntryId) (r : Interlock) :
    (w.setInterlock e r).profiles = w.profiles := rfl
@[simp] theorem setInterlock_queue (w : Work) (e : EntryId) (r : Interlock) :
    (w.setInterlock e r).queue = w.queue := rfl
@[simp] theorem setInterlock_feeders (w : Work) (e : EntryId) (r : Interlock) :
    (w.setInterlock e r).feeders = w.feeders := rfl
@[simp] theorem setInterlock_inputs (w : Work) (e : EntryId) (r : Interlock) :
    (w.setInterlock e r).inputs = w.inputs := rfl
@[simp] theorem setInterlock_clock (w : Work) (e : EntryId) (r : Interlock) :
    (w.setInterlock e r).clock = w.clock := rfl
@[simp] theorem setInterlock_plan (w : Work) (e : EntryId) (r : Interlock) :
    (w.setInterlock e r).plan = w.plan := rfl
@[simp] theorem setInterlock_general (w : Work) (e : EntryId) (r : Interlock) :
    (w.setInterlock e r).general = w.general := rfl
@[simp] theorem setInterlock_authority (w : Work) (e : EntryId) (r : Interlock) :
    (w.setInterlock e r).authority = w.authority := rfl
@[simp] theorem setInterlock_events (w : Work) (e : EntryId) (r : Interlock) :
    (w.setInterlock e r).events = w.events := rfl
@[simp] theorem setInterlock_switch (w : Work) (e : EntryId) (r : Interlock) :
    (w.setInterlock e r).switch = w.switch := rfl
@[simp] theorem setInterlock_portC (w : Work) (e : EntryId) (r : Interlock) :
    (w.setInterlock e r).portC = w.portC := rfl
@[simp] theorem setInterlock_portF1 (w : Work) (e : EntryId) (r : Interlock) :
    (w.setInterlock e r).portF1 = w.portF1 := rfl
@[simp] theorem setInterlock_portF2 (w : Work) (e : EntryId) (r : Interlock) :
    (w.setInterlock e r).portF2 = w.portF2 := rfl
@[simp] theorem setInterlock_serial (w : Work) (e : EntryId) (r : Interlock) :
    (w.setInterlock e r).serial = w.serial := rfl
@[simp] theorem setInterlock_choices (w : Work) (e : EntryId) (r : Interlock) :
    (w.setInterlock e r).choices = w.choices := rfl
@[simp] theorem setInterlock_pending (w : Work) (e : EntryId) (r : Interlock) :
    (w.setInterlock e r).pending = w.pending := rfl
@[simp] theorem setInterlock_agenda (w : Work) (e : EntryId) (r : Interlock) :
    (w.setInterlock e r).agenda = w.agenda := rfl
@[simp] theorem setInterlock_replying (w : Work) (e : EntryId) (r : Interlock) :
    (w.setInterlock e r).replying = w.replying := rfl
@[simp] theorem setInterlock_offerOwed (w : Work) (e : EntryId) (r : Interlock) :
    (w.setInterlock e r).offerOwed = w.offerOwed := rfl

/-! ### setInput -/

@[simp] theorem setInput_zones (w : Work) (l : LineId) (r : InputLine) :
    (w.setInput l r).zones = w.zones := rfl
@[simp] theorem setInput_houses (w : Work) (l : LineId) (r : InputLine) :
    (w.setInput l r).houses = w.houses := rfl
@[simp] theorem setInput_tracker (w : Work) (l : LineId) (r : InputLine) :
    (w.setInput l r).tracker = w.tracker := rfl
@[simp] theorem setInput_pumps (w : Work) (l : LineId) (r : InputLine) :
    (w.setInput l r).pumps = w.pumps := rfl
@[simp] theorem setInput_profiles (w : Work) (l : LineId) (r : InputLine) :
    (w.setInput l r).profiles = w.profiles := rfl
@[simp] theorem setInput_queue (w : Work) (l : LineId) (r : InputLine) :
    (w.setInput l r).queue = w.queue := rfl
@[simp] theorem setInput_feeders (w : Work) (l : LineId) (r : InputLine) :
    (w.setInput l r).feeders = w.feeders := rfl
@[simp] theorem setInput_interlocks (w : Work) (l : LineId) (r : InputLine) :
    (w.setInput l r).interlocks = w.interlocks := rfl
@[simp] theorem setInput_clock (w : Work) (l : LineId) (r : InputLine) :
    (w.setInput l r).clock = w.clock := rfl
@[simp] theorem setInput_plan (w : Work) (l : LineId) (r : InputLine) :
    (w.setInput l r).plan = w.plan := rfl
@[simp] theorem setInput_general (w : Work) (l : LineId) (r : InputLine) :
    (w.setInput l r).general = w.general := rfl
@[simp] theorem setInput_authority (w : Work) (l : LineId) (r : InputLine) :
    (w.setInput l r).authority = w.authority := rfl
@[simp] theorem setInput_events (w : Work) (l : LineId) (r : InputLine) :
    (w.setInput l r).events = w.events := rfl
@[simp] theorem setInput_switch (w : Work) (l : LineId) (r : InputLine) :
    (w.setInput l r).switch = w.switch := rfl
@[simp] theorem setInput_portC (w : Work) (l : LineId) (r : InputLine) :
    (w.setInput l r).portC = w.portC := rfl
@[simp] theorem setInput_portF1 (w : Work) (l : LineId) (r : InputLine) :
    (w.setInput l r).portF1 = w.portF1 := rfl
@[simp] theorem setInput_portF2 (w : Work) (l : LineId) (r : InputLine) :
    (w.setInput l r).portF2 = w.portF2 := rfl
@[simp] theorem setInput_serial (w : Work) (l : LineId) (r : InputLine) :
    (w.setInput l r).serial = w.serial := rfl
@[simp] theorem setInput_choices (w : Work) (l : LineId) (r : InputLine) :
    (w.setInput l r).choices = w.choices := rfl
@[simp] theorem setInput_pending (w : Work) (l : LineId) (r : InputLine) :
    (w.setInput l r).pending = w.pending := rfl
@[simp] theorem setInput_agenda (w : Work) (l : LineId) (r : InputLine) :
    (w.setInput l r).agenda = w.agenda := rfl
@[simp] theorem setInput_replying (w : Work) (l : LineId) (r : InputLine) :
    (w.setInput l r).replying = w.replying := rfl
@[simp] theorem setInput_offerOwed (w : Work) (l : LineId) (r : InputLine) :
    (w.setInput l r).offerOwed = w.offerOwed := rfl

/-! ### setMode -/

@[simp] theorem setMode_zones (w : Work) (m : Mode) :
    (w.setMode m).zones = w.zones := rfl
@[simp] theorem setMode_houses (w : Work) (m : Mode) :
    (w.setMode m).houses = w.houses := rfl
@[simp] theorem setMode_tracker (w : Work) (m : Mode) :
    (w.setMode m).tracker = w.tracker := rfl
@[simp] theorem setMode_pumps (w : Work) (m : Mode) :
    (w.setMode m).pumps = w.pumps := rfl
@[simp] theorem setMode_profiles (w : Work) (m : Mode) :
    (w.setMode m).profiles = w.profiles := rfl
@[simp] theorem setMode_queue (w : Work) (m : Mode) :
    (w.setMode m).queue = w.queue := rfl
@[simp] theorem setMode_feeders (w : Work) (m : Mode) :
    (w.setMode m).feeders = w.feeders := rfl
@[simp] theorem setMode_interlocks (w : Work) (m : Mode) :
    (w.setMode m).interlocks = w.interlocks := rfl
@[simp] theorem setMode_inputs (w : Work) (m : Mode) :
    (w.setMode m).inputs = w.inputs := rfl
@[simp] theorem setMode_clock (w : Work) (m : Mode) :
    (w.setMode m).clock = w.clock := rfl
@[simp] theorem setMode_plan (w : Work) (m : Mode) :
    (w.setMode m).plan = w.plan := rfl
@[simp] theorem setMode_general (w : Work) (m : Mode) :
    (w.setMode m).general = w.general := rfl
@[simp] theorem setMode_events (w : Work) (m : Mode) :
    (w.setMode m).events = w.events := rfl
@[simp] theorem setMode_switch (w : Work) (m : Mode) :
    (w.setMode m).switch = w.switch := rfl
@[simp] theorem setMode_portC (w : Work) (m : Mode) :
    (w.setMode m).portC = w.portC := rfl
@[simp] theorem setMode_portF1 (w : Work) (m : Mode) :
    (w.setMode m).portF1 = w.portF1 := rfl
@[simp] theorem setMode_portF2 (w : Work) (m : Mode) :
    (w.setMode m).portF2 = w.portF2 := rfl
@[simp] theorem setMode_serial (w : Work) (m : Mode) :
    (w.setMode m).serial = w.serial := rfl
@[simp] theorem setMode_choices (w : Work) (m : Mode) :
    (w.setMode m).choices = w.choices := rfl
@[simp] theorem setMode_pending (w : Work) (m : Mode) :
    (w.setMode m).pending = w.pending := rfl
@[simp] theorem setMode_agenda (w : Work) (m : Mode) :
    (w.setMode m).agenda = w.agenda := rfl
@[simp] theorem setMode_replying (w : Work) (m : Mode) :
    (w.setMode m).replying = w.replying := rfl
@[simp] theorem setMode_offerOwed (w : Work) (m : Mode) :
    (w.setMode m).offerOwed = w.offerOwed := rfl

/-! ### push -/

@[simp] theorem push_zones (w : Work) (r : Reaction) :
    (w.push r).zones = w.zones := rfl
@[simp] theorem push_houses (w : Work) (r : Reaction) :
    (w.push r).houses = w.houses := rfl
@[simp] theorem push_tracker (w : Work) (r : Reaction) :
    (w.push r).tracker = w.tracker := rfl
@[simp] theorem push_pumps (w : Work) (r : Reaction) :
    (w.push r).pumps = w.pumps := rfl
@[simp] theorem push_profiles (w : Work) (r : Reaction) :
    (w.push r).profiles = w.profiles := rfl
@[simp] theorem push_queue (w : Work) (r : Reaction) :
    (w.push r).queue = w.queue := rfl
@[simp] theorem push_feeders (w : Work) (r : Reaction) :
    (w.push r).feeders = w.feeders := rfl
@[simp] theorem push_interlocks (w : Work) (r : Reaction) :
    (w.push r).interlocks = w.interlocks := rfl
@[simp] theorem push_inputs (w : Work) (r : Reaction) :
    (w.push r).inputs = w.inputs := rfl
@[simp] theorem push_clock (w : Work) (r : Reaction) :
    (w.push r).clock = w.clock := rfl
@[simp] theorem push_plan (w : Work) (r : Reaction) :
    (w.push r).plan = w.plan := rfl
@[simp] theorem push_general (w : Work) (r : Reaction) :
    (w.push r).general = w.general := rfl
@[simp] theorem push_authority (w : Work) (r : Reaction) :
    (w.push r).authority = w.authority := rfl
@[simp] theorem push_events (w : Work) (r : Reaction) :
    (w.push r).events = w.events := rfl
@[simp] theorem push_switch (w : Work) (r : Reaction) :
    (w.push r).switch = w.switch := rfl
@[simp] theorem push_portC (w : Work) (r : Reaction) :
    (w.push r).portC = w.portC := rfl
@[simp] theorem push_portF1 (w : Work) (r : Reaction) :
    (w.push r).portF1 = w.portF1 := rfl
@[simp] theorem push_portF2 (w : Work) (r : Reaction) :
    (w.push r).portF2 = w.portF2 := rfl
@[simp] theorem push_serial (w : Work) (r : Reaction) :
    (w.push r).serial = w.serial := rfl
@[simp] theorem push_choices (w : Work) (r : Reaction) :
    (w.push r).choices = w.choices := rfl
@[simp] theorem push_pending (w : Work) (r : Reaction) :
    (w.push r).pending = w.pending := rfl
@[simp] theorem push_replying (w : Work) (r : Reaction) :
    (w.push r).replying = w.replying := rfl
@[simp] theorem push_offerOwed (w : Work) (r : Reaction) :
    (w.push r).offerOwed = w.offerOwed := rfl

/-! ### pushIf -/

@[simp] theorem pushIf_zones (w : Work) (c : Bool) (r : Reaction) :
    (w.pushIf c r).zones = w.zones := by cases c <;> rfl
@[simp] theorem pushIf_houses (w : Work) (c : Bool) (r : Reaction) :
    (w.pushIf c r).houses = w.houses := by cases c <;> rfl
@[simp] theorem pushIf_tracker (w : Work) (c : Bool) (r : Reaction) :
    (w.pushIf c r).tracker = w.tracker := by cases c <;> rfl
@[simp] theorem pushIf_pumps (w : Work) (c : Bool) (r : Reaction) :
    (w.pushIf c r).pumps = w.pumps := by cases c <;> rfl
@[simp] theorem pushIf_profiles (w : Work) (c : Bool) (r : Reaction) :
    (w.pushIf c r).profiles = w.profiles := by cases c <;> rfl
@[simp] theorem pushIf_queue (w : Work) (c : Bool) (r : Reaction) :
    (w.pushIf c r).queue = w.queue := by cases c <;> rfl
@[simp] theorem pushIf_feeders (w : Work) (c : Bool) (r : Reaction) :
    (w.pushIf c r).feeders = w.feeders := by cases c <;> rfl
@[simp] theorem pushIf_interlocks (w : Work) (c : Bool) (r : Reaction) :
    (w.pushIf c r).interlocks = w.interlocks := by cases c <;> rfl
@[simp] theorem pushIf_inputs (w : Work) (c : Bool) (r : Reaction) :
    (w.pushIf c r).inputs = w.inputs := by cases c <;> rfl
@[simp] theorem pushIf_clock (w : Work) (c : Bool) (r : Reaction) :
    (w.pushIf c r).clock = w.clock := by cases c <;> rfl
@[simp] theorem pushIf_plan (w : Work) (c : Bool) (r : Reaction) :
    (w.pushIf c r).plan = w.plan := by cases c <;> rfl
@[simp] theorem pushIf_general (w : Work) (c : Bool) (r : Reaction) :
    (w.pushIf c r).general = w.general := by cases c <;> rfl
@[simp] theorem pushIf_authority (w : Work) (c : Bool) (r : Reaction) :
    (w.pushIf c r).authority = w.authority := by cases c <;> rfl
@[simp] theorem pushIf_events (w : Work) (c : Bool) (r : Reaction) :
    (w.pushIf c r).events = w.events := by cases c <;> rfl
@[simp] theorem pushIf_switch (w : Work) (c : Bool) (r : Reaction) :
    (w.pushIf c r).switch = w.switch := by cases c <;> rfl
@[simp] theorem pushIf_portC (w : Work) (c : Bool) (r : Reaction) :
    (w.pushIf c r).portC = w.portC := by cases c <;> rfl
@[simp] theorem pushIf_portF1 (w : Work) (c : Bool) (r : Reaction) :
    (w.pushIf c r).portF1 = w.portF1 := by cases c <;> rfl
@[simp] theorem pushIf_portF2 (w : Work) (c : Bool) (r : Reaction) :
    (w.pushIf c r).portF2 = w.portF2 := by cases c <;> rfl
@[simp] theorem pushIf_serial (w : Work) (c : Bool) (r : Reaction) :
    (w.pushIf c r).serial = w.serial := by cases c <;> rfl
@[simp] theorem pushIf_choices (w : Work) (c : Bool) (r : Reaction) :
    (w.pushIf c r).choices = w.choices := by cases c <;> rfl
@[simp] theorem pushIf_pending (w : Work) (c : Bool) (r : Reaction) :
    (w.pushIf c r).pending = w.pending := by cases c <;> rfl
@[simp] theorem pushIf_replying (w : Work) (c : Bool) (r : Reaction) :
    (w.pushIf c r).replying = w.replying := by cases c <;> rfl
@[simp] theorem pushIf_offerOwed (w : Work) (c : Bool) (r : Reaction) :
    (w.pushIf c r).offerOwed = w.offerOwed := by cases c <;> rfl

/-! ### setPort -/

@[simp] theorem setPort_zones (w : Work) (p : Port) (r : PortRecord) :
    (w.setPort p r).zones = w.zones := by cases p <;> rfl
@[simp] theorem setPort_houses (w : Work) (p : Port) (r : PortRecord) :
    (w.setPort p r).houses = w.houses := by cases p <;> rfl
@[simp] theorem setPort_tracker (w : Work) (p : Port) (r : PortRecord) :
    (w.setPort p r).tracker = w.tracker := by cases p <;> rfl
@[simp] theorem setPort_pumps (w : Work) (p : Port) (r : PortRecord) :
    (w.setPort p r).pumps = w.pumps := by cases p <;> rfl
@[simp] theorem setPort_profiles (w : Work) (p : Port) (r : PortRecord) :
    (w.setPort p r).profiles = w.profiles := by cases p <;> rfl
@[simp] theorem setPort_queue (w : Work) (p : Port) (r : PortRecord) :
    (w.setPort p r).queue = w.queue := by cases p <;> rfl
@[simp] theorem setPort_feeders (w : Work) (p : Port) (r : PortRecord) :
    (w.setPort p r).feeders = w.feeders := by cases p <;> rfl
@[simp] theorem setPort_interlocks (w : Work) (p : Port) (r : PortRecord) :
    (w.setPort p r).interlocks = w.interlocks := by cases p <;> rfl
@[simp] theorem setPort_inputs (w : Work) (p : Port) (r : PortRecord) :
    (w.setPort p r).inputs = w.inputs := by cases p <;> rfl
@[simp] theorem setPort_clock (w : Work) (p : Port) (r : PortRecord) :
    (w.setPort p r).clock = w.clock := by cases p <;> rfl
@[simp] theorem setPort_plan (w : Work) (p : Port) (r : PortRecord) :
    (w.setPort p r).plan = w.plan := by cases p <;> rfl
@[simp] theorem setPort_general (w : Work) (p : Port) (r : PortRecord) :
    (w.setPort p r).general = w.general := by cases p <;> rfl
@[simp] theorem setPort_authority (w : Work) (p : Port) (r : PortRecord) :
    (w.setPort p r).authority = w.authority := by cases p <;> rfl
@[simp] theorem setPort_events (w : Work) (p : Port) (r : PortRecord) :
    (w.setPort p r).events = w.events := by cases p <;> rfl
@[simp] theorem setPort_switch (w : Work) (p : Port) (r : PortRecord) :
    (w.setPort p r).switch = w.switch := by cases p <;> rfl
@[simp] theorem setPort_serial (w : Work) (p : Port) (r : PortRecord) :
    (w.setPort p r).serial = w.serial := by cases p <;> rfl
@[simp] theorem setPort_choices (w : Work) (p : Port) (r : PortRecord) :
    (w.setPort p r).choices = w.choices := by cases p <;> rfl
@[simp] theorem setPort_pending (w : Work) (p : Port) (r : PortRecord) :
    (w.setPort p r).pending = w.pending := by cases p <;> rfl
@[simp] theorem setPort_agenda (w : Work) (p : Port) (r : PortRecord) :
    (w.setPort p r).agenda = w.agenda := by cases p <;> rfl
@[simp] theorem setPort_replying (w : Work) (p : Port) (r : PortRecord) :
    (w.setPort p r).replying = w.replying := by cases p <;> rfl
@[simp] theorem setPort_offerOwed (w : Work) (p : Port) (r : PortRecord) :
    (w.setPort p r).offerOwed = w.offerOwed := by cases p <;> rfl

/-! ### What an update writes -/

@[simp] theorem setZone_zones_self (w : Work) (z : ZoneId) (r : Zone) :
    (w.setZone z r).zones[z] = r := by simp [Work.setZone]

theorem setZone_zones_of_ne (w : Work) {z y : ZoneId} (r : Zone) (h : z ≠ y) :
    (w.setZone z r).zones[y] = w.zones[y] := by
  have : z.val ≠ y.val := fun e => h (Fin.ext e)
  simp [Work.setZone, this]

@[simp] theorem setHouse_houses_self (w : Work) (h : HouseId) (r : House) :
    (w.setHouse h r).houses[h] = r := by simp [Work.setHouse]

theorem setHouse_houses_of_ne (w : Work) {h k : HouseId} (r : House) (n : h ≠ k) :
    (w.setHouse h r).houses[k] = w.houses[k] := by
  have : h.val ≠ k.val := fun e => n (Fin.ext e)
  simp [Work.setHouse, this]

@[simp] theorem setPump_pumps_self (w : Work) (p : PumpId) (r : Pump) :
    (w.setPump p r).pumps[p] = r := by simp [Work.setPump]

theorem setPump_pumps_of_ne (w : Work) {p q : PumpId} (r : Pump) (h : p ≠ q) :
    (w.setPump p r).pumps[q] = w.pumps[q] := by
  have : p.val ≠ q.val := fun e => h (Fin.ext e)
  simp [Work.setPump, this]

@[simp] theorem setInterlock_interlocks_self (w : Work) (e : EntryId) (r : Interlock) :
    (w.setInterlock e r).interlocks[e] = r := by simp [Work.setInterlock]

theorem setInterlock_interlocks_of_ne (w : Work) {e f : EntryId} (r : Interlock) (h : e ≠ f) :
    (w.setInterlock e r).interlocks[f] = w.interlocks[f] := by
  have : e.val ≠ f.val := fun n => h (Fin.ext n)
  simp [Work.setInterlock, this]

@[simp] theorem setInput_inputs_self (w : Work) (l : LineId) (r : InputLine) :
    (w.setInput l r).inputs[l] = r := by simp [Work.setInput]

theorem setInput_inputs_of_ne (w : Work) {l k : LineId} (r : InputLine) (h : l ≠ k) :
    (w.setInput l r).inputs[k] = w.inputs[k] := by
  have : l.val ≠ k.val := fun n => h (Fin.ext n)
  simp [Work.setInput, this]

@[simp] theorem setPort_port_self (w : Work) (p : Port) (r : PortRecord) :
    (w.setPort p r).port p = r := by cases p <;> rfl

theorem setPort_port_of_ne (w : Work) {p q : Port} (r : PortRecord) (h : p ≠ q) :
    (w.setPort p r).port q = w.port q := by
  cases p <;> cases q <;> first | rfl | exact absurd rfl h

@[simp] theorem setMode_mode (w : Work) (m : Mode) : (w.setMode m).authority.mode = m := rfl

@[simp] theorem push_agenda (w : Work) (r : Reaction) : (w.push r).agenda = w.agenda ++ [r] := rfl

@[simp] theorem tabulate_getElem_val {α : Type} {n : Nat} (f : Fin n → α) (i : Fin n) :
    (tabulate f)[i.val] = f i := by simp [tabulate]

@[simp] theorem tabulate_getElem {α : Type} {n : Nat} (f : Fin n → α) (i : Fin n) :
    (tabulate f)[i] = f i := tabulate_getElem_val f i

/-! ### The same with an index as simp writes it -/

@[simp] theorem setZone_zones_val (w : Work) (z : ZoneId) (r : Zone) :
    (w.setZone z r).zones[z.val] = r := setZone_zones_self w z r

@[simp] theorem setHouse_houses_val (w : Work) (h : HouseId) (r : House) :
    (w.setHouse h r).houses[h.val] = r := setHouse_houses_self w h r

@[simp] theorem setPump_pumps_val (w : Work) (p : PumpId) (r : Pump) :
    (w.setPump p r).pumps[p.val] = r := setPump_pumps_self w p r

@[simp] theorem setInterlock_interlocks_val (w : Work) (e : EntryId) (r : Interlock) :
    (w.setInterlock e r).interlocks[e.val] = r := setInterlock_interlocks_self w e r

@[simp] theorem setInput_inputs_val (w : Work) (l : LineId) (r : InputLine) :
    (w.setInput l r).inputs[l.val] = r := setInput_inputs_self w l r

/-! ### setQueue -/

@[simp] theorem setQueue_zones (w : Work) (q : List QueueEntry) :
    (w.setQueue q).zones = w.zones := rfl
@[simp] theorem setQueue_houses (w : Work) (q : List QueueEntry) :
    (w.setQueue q).houses = w.houses := rfl
@[simp] theorem setQueue_tracker (w : Work) (q : List QueueEntry) :
    (w.setQueue q).tracker = w.tracker := rfl
@[simp] theorem setQueue_pumps (w : Work) (q : List QueueEntry) :
    (w.setQueue q).pumps = w.pumps := rfl
@[simp] theorem setQueue_profiles (w : Work) (q : List QueueEntry) :
    (w.setQueue q).profiles = w.profiles := rfl
@[simp] theorem setQueue_queue (w : Work) (q : List QueueEntry) :
    (w.setQueue q).queue = q := rfl
@[simp] theorem setQueue_feeders (w : Work) (q : List QueueEntry) :
    (w.setQueue q).feeders = w.feeders := rfl
@[simp] theorem setQueue_interlocks (w : Work) (q : List QueueEntry) :
    (w.setQueue q).interlocks = w.interlocks := rfl
@[simp] theorem setQueue_inputs (w : Work) (q : List QueueEntry) :
    (w.setQueue q).inputs = w.inputs := rfl
@[simp] theorem setQueue_clock (w : Work) (q : List QueueEntry) :
    (w.setQueue q).clock = w.clock := rfl
@[simp] theorem setQueue_plan (w : Work) (q : List QueueEntry) :
    (w.setQueue q).plan = w.plan := rfl
@[simp] theorem setQueue_general (w : Work) (q : List QueueEntry) :
    (w.setQueue q).general = w.general := rfl
@[simp] theorem setQueue_authority (w : Work) (q : List QueueEntry) :
    (w.setQueue q).authority = w.authority := rfl
@[simp] theorem setQueue_events (w : Work) (q : List QueueEntry) :
    (w.setQueue q).events = w.events := rfl
@[simp] theorem setQueue_switch (w : Work) (q : List QueueEntry) :
    (w.setQueue q).switch = w.switch := rfl
@[simp] theorem setQueue_portC (w : Work) (q : List QueueEntry) :
    (w.setQueue q).portC = w.portC := rfl
@[simp] theorem setQueue_portF1 (w : Work) (q : List QueueEntry) :
    (w.setQueue q).portF1 = w.portF1 := rfl
@[simp] theorem setQueue_portF2 (w : Work) (q : List QueueEntry) :
    (w.setQueue q).portF2 = w.portF2 := rfl
@[simp] theorem setQueue_serial (w : Work) (q : List QueueEntry) :
    (w.setQueue q).serial = w.serial := rfl
@[simp] theorem setQueue_choices (w : Work) (q : List QueueEntry) :
    (w.setQueue q).choices = w.choices := rfl
@[simp] theorem setQueue_pending (w : Work) (q : List QueueEntry) :
    (w.setQueue q).pending = w.pending := rfl
@[simp] theorem setQueue_agenda (w : Work) (q : List QueueEntry) :
    (w.setQueue q).agenda = w.agenda := rfl
@[simp] theorem setQueue_replying (w : Work) (q : List QueueEntry) :
    (w.setQueue q).replying = w.replying := rfl
@[simp] theorem setQueue_offerOwed (w : Work) (q : List QueueEntry) :
    (w.setQueue q).offerOwed = w.offerOwed := rfl
@[simp] theorem setQueue_port (w : Work) (q : List QueueEntry) (p : Port) :
    (w.setQueue q).port p = w.port p := by cases p <;> rfl

/-! ### setClock -/

@[simp] theorem setClock_zones (w : Work) (c : Clock) :
    (w.setClock c).zones = w.zones := rfl
@[simp] theorem setClock_houses (w : Work) (c : Clock) :
    (w.setClock c).houses = w.houses := rfl
@[simp] theorem setClock_tracker (w : Work) (c : Clock) :
    (w.setClock c).tracker = w.tracker := rfl
@[simp] theorem setClock_pumps (w : Work) (c : Clock) :
    (w.setClock c).pumps = w.pumps := rfl
@[simp] theorem setClock_profiles (w : Work) (c : Clock) :
    (w.setClock c).profiles = w.profiles := rfl
@[simp] theorem setClock_queue (w : Work) (c : Clock) :
    (w.setClock c).queue = w.queue := rfl
@[simp] theorem setClock_feeders (w : Work) (c : Clock) :
    (w.setClock c).feeders = w.feeders := rfl
@[simp] theorem setClock_interlocks (w : Work) (c : Clock) :
    (w.setClock c).interlocks = w.interlocks := rfl
@[simp] theorem setClock_inputs (w : Work) (c : Clock) :
    (w.setClock c).inputs = w.inputs := rfl
@[simp] theorem setClock_clock (w : Work) (c : Clock) :
    (w.setClock c).clock = c := rfl
@[simp] theorem setClock_plan (w : Work) (c : Clock) :
    (w.setClock c).plan = w.plan := rfl
@[simp] theorem setClock_general (w : Work) (c : Clock) :
    (w.setClock c).general = w.general := rfl
@[simp] theorem setClock_authority (w : Work) (c : Clock) :
    (w.setClock c).authority = w.authority := rfl
@[simp] theorem setClock_events (w : Work) (c : Clock) :
    (w.setClock c).events = w.events := rfl
@[simp] theorem setClock_switch (w : Work) (c : Clock) :
    (w.setClock c).switch = w.switch := rfl
@[simp] theorem setClock_portC (w : Work) (c : Clock) :
    (w.setClock c).portC = w.portC := rfl
@[simp] theorem setClock_portF1 (w : Work) (c : Clock) :
    (w.setClock c).portF1 = w.portF1 := rfl
@[simp] theorem setClock_portF2 (w : Work) (c : Clock) :
    (w.setClock c).portF2 = w.portF2 := rfl
@[simp] theorem setClock_serial (w : Work) (c : Clock) :
    (w.setClock c).serial = w.serial := rfl
@[simp] theorem setClock_choices (w : Work) (c : Clock) :
    (w.setClock c).choices = w.choices := rfl
@[simp] theorem setClock_pending (w : Work) (c : Clock) :
    (w.setClock c).pending = w.pending := rfl
@[simp] theorem setClock_agenda (w : Work) (c : Clock) :
    (w.setClock c).agenda = w.agenda := rfl
@[simp] theorem setClock_replying (w : Work) (c : Clock) :
    (w.setClock c).replying = w.replying := rfl
@[simp] theorem setClock_offerOwed (w : Work) (c : Clock) :
    (w.setClock c).offerOwed = w.offerOwed := rfl
@[simp] theorem setClock_port (w : Work) (c : Clock) (p : Port) :
    (w.setClock c).port p = w.port p := by cases p <;> rfl

/-! ### setPlan -/

@[simp] theorem setPlan_zones (w : Work) (x : Plan) :
    (w.setPlan x).zones = w.zones := rfl
@[simp] theorem setPlan_houses (w : Work) (x : Plan) :
    (w.setPlan x).houses = w.houses := rfl
@[simp] theorem setPlan_tracker (w : Work) (x : Plan) :
    (w.setPlan x).tracker = w.tracker := rfl
@[simp] theorem setPlan_pumps (w : Work) (x : Plan) :
    (w.setPlan x).pumps = w.pumps := rfl
@[simp] theorem setPlan_profiles (w : Work) (x : Plan) :
    (w.setPlan x).profiles = w.profiles := rfl
@[simp] theorem setPlan_queue (w : Work) (x : Plan) :
    (w.setPlan x).queue = w.queue := rfl
@[simp] theorem setPlan_feeders (w : Work) (x : Plan) :
    (w.setPlan x).feeders = w.feeders := rfl
@[simp] theorem setPlan_interlocks (w : Work) (x : Plan) :
    (w.setPlan x).interlocks = w.interlocks := rfl
@[simp] theorem setPlan_inputs (w : Work) (x : Plan) :
    (w.setPlan x).inputs = w.inputs := rfl
@[simp] theorem setPlan_clock (w : Work) (x : Plan) :
    (w.setPlan x).clock = w.clock := rfl
@[simp] theorem setPlan_plan (w : Work) (x : Plan) :
    (w.setPlan x).plan = x := rfl
@[simp] theorem setPlan_general (w : Work) (x : Plan) :
    (w.setPlan x).general = w.general := rfl
@[simp] theorem setPlan_authority (w : Work) (x : Plan) :
    (w.setPlan x).authority = w.authority := rfl
@[simp] theorem setPlan_events (w : Work) (x : Plan) :
    (w.setPlan x).events = w.events := rfl
@[simp] theorem setPlan_switch (w : Work) (x : Plan) :
    (w.setPlan x).switch = w.switch := rfl
@[simp] theorem setPlan_portC (w : Work) (x : Plan) :
    (w.setPlan x).portC = w.portC := rfl
@[simp] theorem setPlan_portF1 (w : Work) (x : Plan) :
    (w.setPlan x).portF1 = w.portF1 := rfl
@[simp] theorem setPlan_portF2 (w : Work) (x : Plan) :
    (w.setPlan x).portF2 = w.portF2 := rfl
@[simp] theorem setPlan_serial (w : Work) (x : Plan) :
    (w.setPlan x).serial = w.serial := rfl
@[simp] theorem setPlan_choices (w : Work) (x : Plan) :
    (w.setPlan x).choices = w.choices := rfl
@[simp] theorem setPlan_pending (w : Work) (x : Plan) :
    (w.setPlan x).pending = w.pending := rfl
@[simp] theorem setPlan_agenda (w : Work) (x : Plan) :
    (w.setPlan x).agenda = w.agenda := rfl
@[simp] theorem setPlan_replying (w : Work) (x : Plan) :
    (w.setPlan x).replying = w.replying := rfl
@[simp] theorem setPlan_offerOwed (w : Work) (x : Plan) :
    (w.setPlan x).offerOwed = w.offerOwed := rfl
@[simp] theorem setPlan_port (w : Work) (x : Plan) (p : Port) :
    (w.setPlan x).port p = w.port p := by cases p <;> rfl

/-! ### setGeneral -/

@[simp] theorem setGeneral_zones (w : Work) (g : General) :
    (w.setGeneral g).zones = w.zones := rfl
@[simp] theorem setGeneral_houses (w : Work) (g : General) :
    (w.setGeneral g).houses = w.houses := rfl
@[simp] theorem setGeneral_tracker (w : Work) (g : General) :
    (w.setGeneral g).tracker = w.tracker := rfl
@[simp] theorem setGeneral_pumps (w : Work) (g : General) :
    (w.setGeneral g).pumps = w.pumps := rfl
@[simp] theorem setGeneral_profiles (w : Work) (g : General) :
    (w.setGeneral g).profiles = w.profiles := rfl
@[simp] theorem setGeneral_queue (w : Work) (g : General) :
    (w.setGeneral g).queue = w.queue := rfl
@[simp] theorem setGeneral_feeders (w : Work) (g : General) :
    (w.setGeneral g).feeders = w.feeders := rfl
@[simp] theorem setGeneral_interlocks (w : Work) (g : General) :
    (w.setGeneral g).interlocks = w.interlocks := rfl
@[simp] theorem setGeneral_inputs (w : Work) (g : General) :
    (w.setGeneral g).inputs = w.inputs := rfl
@[simp] theorem setGeneral_clock (w : Work) (g : General) :
    (w.setGeneral g).clock = w.clock := rfl
@[simp] theorem setGeneral_plan (w : Work) (g : General) :
    (w.setGeneral g).plan = w.plan := rfl
@[simp] theorem setGeneral_general (w : Work) (g : General) :
    (w.setGeneral g).general = g := rfl
@[simp] theorem setGeneral_authority (w : Work) (g : General) :
    (w.setGeneral g).authority = w.authority := rfl
@[simp] theorem setGeneral_events (w : Work) (g : General) :
    (w.setGeneral g).events = w.events := rfl
@[simp] theorem setGeneral_switch (w : Work) (g : General) :
    (w.setGeneral g).switch = w.switch := rfl
@[simp] theorem setGeneral_portC (w : Work) (g : General) :
    (w.setGeneral g).portC = w.portC := rfl
@[simp] theorem setGeneral_portF1 (w : Work) (g : General) :
    (w.setGeneral g).portF1 = w.portF1 := rfl
@[simp] theorem setGeneral_portF2 (w : Work) (g : General) :
    (w.setGeneral g).portF2 = w.portF2 := rfl
@[simp] theorem setGeneral_serial (w : Work) (g : General) :
    (w.setGeneral g).serial = w.serial := rfl
@[simp] theorem setGeneral_choices (w : Work) (g : General) :
    (w.setGeneral g).choices = w.choices := rfl
@[simp] theorem setGeneral_pending (w : Work) (g : General) :
    (w.setGeneral g).pending = w.pending := rfl
@[simp] theorem setGeneral_agenda (w : Work) (g : General) :
    (w.setGeneral g).agenda = w.agenda := rfl
@[simp] theorem setGeneral_replying (w : Work) (g : General) :
    (w.setGeneral g).replying = w.replying := rfl
@[simp] theorem setGeneral_offerOwed (w : Work) (g : General) :
    (w.setGeneral g).offerOwed = w.offerOwed := rfl
@[simp] theorem setGeneral_port (w : Work) (g : General) (p : Port) :
    (w.setGeneral g).port p = w.port p := by cases p <;> rfl

/-! ### setAuthority -/

@[simp] theorem setAuthority_zones (w : Work) (a : Authority) :
    (w.setAuthority a).zones = w.zones := rfl
@[simp] theorem setAuthority_houses (w : Work) (a : Authority) :
    (w.setAuthority a).houses = w.houses := rfl
@[simp] theorem setAuthority_tracker (w : Work) (a : Authority) :
    (w.setAuthority a).tracker = w.tracker := rfl
@[simp] theorem setAuthority_pumps (w : Work) (a : Authority) :
    (w.setAuthority a).pumps = w.pumps := rfl
@[simp] theorem setAuthority_profiles (w : Work) (a : Authority) :
    (w.setAuthority a).profiles = w.profiles := rfl
@[simp] theorem setAuthority_queue (w : Work) (a : Authority) :
    (w.setAuthority a).queue = w.queue := rfl
@[simp] theorem setAuthority_feeders (w : Work) (a : Authority) :
    (w.setAuthority a).feeders = w.feeders := rfl
@[simp] theorem setAuthority_interlocks (w : Work) (a : Authority) :
    (w.setAuthority a).interlocks = w.interlocks := rfl
@[simp] theorem setAuthority_inputs (w : Work) (a : Authority) :
    (w.setAuthority a).inputs = w.inputs := rfl
@[simp] theorem setAuthority_clock (w : Work) (a : Authority) :
    (w.setAuthority a).clock = w.clock := rfl
@[simp] theorem setAuthority_plan (w : Work) (a : Authority) :
    (w.setAuthority a).plan = w.plan := rfl
@[simp] theorem setAuthority_general (w : Work) (a : Authority) :
    (w.setAuthority a).general = w.general := rfl
@[simp] theorem setAuthority_authority (w : Work) (a : Authority) :
    (w.setAuthority a).authority = a := rfl
@[simp] theorem setAuthority_events (w : Work) (a : Authority) :
    (w.setAuthority a).events = w.events := rfl
@[simp] theorem setAuthority_switch (w : Work) (a : Authority) :
    (w.setAuthority a).switch = w.switch := rfl
@[simp] theorem setAuthority_portC (w : Work) (a : Authority) :
    (w.setAuthority a).portC = w.portC := rfl
@[simp] theorem setAuthority_portF1 (w : Work) (a : Authority) :
    (w.setAuthority a).portF1 = w.portF1 := rfl
@[simp] theorem setAuthority_portF2 (w : Work) (a : Authority) :
    (w.setAuthority a).portF2 = w.portF2 := rfl
@[simp] theorem setAuthority_serial (w : Work) (a : Authority) :
    (w.setAuthority a).serial = w.serial := rfl
@[simp] theorem setAuthority_choices (w : Work) (a : Authority) :
    (w.setAuthority a).choices = w.choices := rfl
@[simp] theorem setAuthority_pending (w : Work) (a : Authority) :
    (w.setAuthority a).pending = w.pending := rfl
@[simp] theorem setAuthority_agenda (w : Work) (a : Authority) :
    (w.setAuthority a).agenda = w.agenda := rfl
@[simp] theorem setAuthority_replying (w : Work) (a : Authority) :
    (w.setAuthority a).replying = w.replying := rfl
@[simp] theorem setAuthority_offerOwed (w : Work) (a : Authority) :
    (w.setAuthority a).offerOwed = w.offerOwed := rfl
@[simp] theorem setAuthority_port (w : Work) (a : Authority) (p : Port) :
    (w.setAuthority a).port p = w.port p := by cases p <;> rfl

/-! ### setEvents -/

@[simp] theorem setEvents_zones (w : Work) (e : Events) :
    (w.setEvents e).zones = w.zones := rfl
@[simp] theorem setEvents_houses (w : Work) (e : Events) :
    (w.setEvents e).houses = w.houses := rfl
@[simp] theorem setEvents_tracker (w : Work) (e : Events) :
    (w.setEvents e).tracker = w.tracker := rfl
@[simp] theorem setEvents_pumps (w : Work) (e : Events) :
    (w.setEvents e).pumps = w.pumps := rfl
@[simp] theorem setEvents_profiles (w : Work) (e : Events) :
    (w.setEvents e).profiles = w.profiles := rfl
@[simp] theorem setEvents_queue (w : Work) (e : Events) :
    (w.setEvents e).queue = w.queue := rfl
@[simp] theorem setEvents_feeders (w : Work) (e : Events) :
    (w.setEvents e).feeders = w.feeders := rfl
@[simp] theorem setEvents_interlocks (w : Work) (e : Events) :
    (w.setEvents e).interlocks = w.interlocks := rfl
@[simp] theorem setEvents_inputs (w : Work) (e : Events) :
    (w.setEvents e).inputs = w.inputs := rfl
@[simp] theorem setEvents_clock (w : Work) (e : Events) :
    (w.setEvents e).clock = w.clock := rfl
@[simp] theorem setEvents_plan (w : Work) (e : Events) :
    (w.setEvents e).plan = w.plan := rfl
@[simp] theorem setEvents_general (w : Work) (e : Events) :
    (w.setEvents e).general = w.general := rfl
@[simp] theorem setEvents_authority (w : Work) (e : Events) :
    (w.setEvents e).authority = w.authority := rfl
@[simp] theorem setEvents_events (w : Work) (e : Events) :
    (w.setEvents e).events = e := rfl
@[simp] theorem setEvents_switch (w : Work) (e : Events) :
    (w.setEvents e).switch = w.switch := rfl
@[simp] theorem setEvents_portC (w : Work) (e : Events) :
    (w.setEvents e).portC = w.portC := rfl
@[simp] theorem setEvents_portF1 (w : Work) (e : Events) :
    (w.setEvents e).portF1 = w.portF1 := rfl
@[simp] theorem setEvents_portF2 (w : Work) (e : Events) :
    (w.setEvents e).portF2 = w.portF2 := rfl
@[simp] theorem setEvents_serial (w : Work) (e : Events) :
    (w.setEvents e).serial = w.serial := rfl
@[simp] theorem setEvents_choices (w : Work) (e : Events) :
    (w.setEvents e).choices = w.choices := rfl
@[simp] theorem setEvents_pending (w : Work) (e : Events) :
    (w.setEvents e).pending = w.pending := rfl
@[simp] theorem setEvents_agenda (w : Work) (e : Events) :
    (w.setEvents e).agenda = w.agenda := rfl
@[simp] theorem setEvents_replying (w : Work) (e : Events) :
    (w.setEvents e).replying = w.replying := rfl
@[simp] theorem setEvents_offerOwed (w : Work) (e : Events) :
    (w.setEvents e).offerOwed = w.offerOwed := rfl
@[simp] theorem setEvents_port (w : Work) (e : Events) (p : Port) :
    (w.setEvents e).port p = w.port p := by cases p <;> rfl

/-! ### setSwitch -/

@[simp] theorem setSwitch_zones (w : Work) (x : Switch) :
    (w.setSwitch x).zones = w.zones := rfl
@[simp] theorem setSwitch_houses (w : Work) (x : Switch) :
    (w.setSwitch x).houses = w.houses := rfl
@[simp] theorem setSwitch_tracker (w : Work) (x : Switch) :
    (w.setSwitch x).tracker = w.tracker := rfl
@[simp] theorem setSwitch_pumps (w : Work) (x : Switch) :
    (w.setSwitch x).pumps = w.pumps := rfl
@[simp] theorem setSwitch_profiles (w : Work) (x : Switch) :
    (w.setSwitch x).profiles = w.profiles := rfl
@[simp] theorem setSwitch_queue (w : Work) (x : Switch) :
    (w.setSwitch x).queue = w.queue := rfl
@[simp] theorem setSwitch_feeders (w : Work) (x : Switch) :
    (w.setSwitch x).feeders = w.feeders := rfl
@[simp] theorem setSwitch_interlocks (w : Work) (x : Switch) :
    (w.setSwitch x).interlocks = w.interlocks := rfl
@[simp] theorem setSwitch_inputs (w : Work) (x : Switch) :
    (w.setSwitch x).inputs = w.inputs := rfl
@[simp] theorem setSwitch_clock (w : Work) (x : Switch) :
    (w.setSwitch x).clock = w.clock := rfl
@[simp] theorem setSwitch_plan (w : Work) (x : Switch) :
    (w.setSwitch x).plan = w.plan := rfl
@[simp] theorem setSwitch_general (w : Work) (x : Switch) :
    (w.setSwitch x).general = w.general := rfl
@[simp] theorem setSwitch_authority (w : Work) (x : Switch) :
    (w.setSwitch x).authority = w.authority := rfl
@[simp] theorem setSwitch_events (w : Work) (x : Switch) :
    (w.setSwitch x).events = w.events := rfl
@[simp] theorem setSwitch_switch (w : Work) (x : Switch) :
    (w.setSwitch x).switch = x := rfl
@[simp] theorem setSwitch_portC (w : Work) (x : Switch) :
    (w.setSwitch x).portC = w.portC := rfl
@[simp] theorem setSwitch_portF1 (w : Work) (x : Switch) :
    (w.setSwitch x).portF1 = w.portF1 := rfl
@[simp] theorem setSwitch_portF2 (w : Work) (x : Switch) :
    (w.setSwitch x).portF2 = w.portF2 := rfl
@[simp] theorem setSwitch_serial (w : Work) (x : Switch) :
    (w.setSwitch x).serial = w.serial := rfl
@[simp] theorem setSwitch_choices (w : Work) (x : Switch) :
    (w.setSwitch x).choices = w.choices := rfl
@[simp] theorem setSwitch_pending (w : Work) (x : Switch) :
    (w.setSwitch x).pending = w.pending := rfl
@[simp] theorem setSwitch_agenda (w : Work) (x : Switch) :
    (w.setSwitch x).agenda = w.agenda := rfl
@[simp] theorem setSwitch_replying (w : Work) (x : Switch) :
    (w.setSwitch x).replying = w.replying := rfl
@[simp] theorem setSwitch_offerOwed (w : Work) (x : Switch) :
    (w.setSwitch x).offerOwed = w.offerOwed := rfl
@[simp] theorem setSwitch_port (w : Work) (x : Switch) (p : Port) :
    (w.setSwitch x).port p = w.port p := by cases p <;> rfl

/-! ### setTracker -/

@[simp] theorem setTracker_zones (w : Work) (x : TrackerCounts) :
    (w.setTracker x).zones = w.zones := rfl
@[simp] theorem setTracker_houses (w : Work) (x : TrackerCounts) :
    (w.setTracker x).houses = w.houses := rfl
@[simp] theorem setTracker_tracker (w : Work) (x : TrackerCounts) :
    (w.setTracker x).tracker = x := rfl
@[simp] theorem setTracker_pumps (w : Work) (x : TrackerCounts) :
    (w.setTracker x).pumps = w.pumps := rfl
@[simp] theorem setTracker_profiles (w : Work) (x : TrackerCounts) :
    (w.setTracker x).profiles = w.profiles := rfl
@[simp] theorem setTracker_queue (w : Work) (x : TrackerCounts) :
    (w.setTracker x).queue = w.queue := rfl
@[simp] theorem setTracker_feeders (w : Work) (x : TrackerCounts) :
    (w.setTracker x).feeders = w.feeders := rfl
@[simp] theorem setTracker_interlocks (w : Work) (x : TrackerCounts) :
    (w.setTracker x).interlocks = w.interlocks := rfl
@[simp] theorem setTracker_inputs (w : Work) (x : TrackerCounts) :
    (w.setTracker x).inputs = w.inputs := rfl
@[simp] theorem setTracker_clock (w : Work) (x : TrackerCounts) :
    (w.setTracker x).clock = w.clock := rfl
@[simp] theorem setTracker_plan (w : Work) (x : TrackerCounts) :
    (w.setTracker x).plan = w.plan := rfl
@[simp] theorem setTracker_general (w : Work) (x : TrackerCounts) :
    (w.setTracker x).general = w.general := rfl
@[simp] theorem setTracker_authority (w : Work) (x : TrackerCounts) :
    (w.setTracker x).authority = w.authority := rfl
@[simp] theorem setTracker_events (w : Work) (x : TrackerCounts) :
    (w.setTracker x).events = w.events := rfl
@[simp] theorem setTracker_switch (w : Work) (x : TrackerCounts) :
    (w.setTracker x).switch = w.switch := rfl
@[simp] theorem setTracker_portC (w : Work) (x : TrackerCounts) :
    (w.setTracker x).portC = w.portC := rfl
@[simp] theorem setTracker_portF1 (w : Work) (x : TrackerCounts) :
    (w.setTracker x).portF1 = w.portF1 := rfl
@[simp] theorem setTracker_portF2 (w : Work) (x : TrackerCounts) :
    (w.setTracker x).portF2 = w.portF2 := rfl
@[simp] theorem setTracker_serial (w : Work) (x : TrackerCounts) :
    (w.setTracker x).serial = w.serial := rfl
@[simp] theorem setTracker_choices (w : Work) (x : TrackerCounts) :
    (w.setTracker x).choices = w.choices := rfl
@[simp] theorem setTracker_pending (w : Work) (x : TrackerCounts) :
    (w.setTracker x).pending = w.pending := rfl
@[simp] theorem setTracker_agenda (w : Work) (x : TrackerCounts) :
    (w.setTracker x).agenda = w.agenda := rfl
@[simp] theorem setTracker_replying (w : Work) (x : TrackerCounts) :
    (w.setTracker x).replying = w.replying := rfl
@[simp] theorem setTracker_offerOwed (w : Work) (x : TrackerCounts) :
    (w.setTracker x).offerOwed = w.offerOwed := rfl
@[simp] theorem setTracker_port (w : Work) (x : TrackerCounts) (p : Port) :
    (w.setTracker x).port p = w.port p := by cases p <;> rfl

/-! ### setOwed -/

@[simp] theorem setOwed_zones (w : Work) (b : Bool) :
    (w.setOwed b).zones = w.zones := rfl
@[simp] theorem setOwed_houses (w : Work) (b : Bool) :
    (w.setOwed b).houses = w.houses := rfl
@[simp] theorem setOwed_tracker (w : Work) (b : Bool) :
    (w.setOwed b).tracker = w.tracker := rfl
@[simp] theorem setOwed_pumps (w : Work) (b : Bool) :
    (w.setOwed b).pumps = w.pumps := rfl
@[simp] theorem setOwed_profiles (w : Work) (b : Bool) :
    (w.setOwed b).profiles = w.profiles := rfl
@[simp] theorem setOwed_queue (w : Work) (b : Bool) :
    (w.setOwed b).queue = w.queue := rfl
@[simp] theorem setOwed_feeders (w : Work) (b : Bool) :
    (w.setOwed b).feeders = w.feeders := rfl
@[simp] theorem setOwed_interlocks (w : Work) (b : Bool) :
    (w.setOwed b).interlocks = w.interlocks := rfl
@[simp] theorem setOwed_inputs (w : Work) (b : Bool) :
    (w.setOwed b).inputs = w.inputs := rfl
@[simp] theorem setOwed_clock (w : Work) (b : Bool) :
    (w.setOwed b).clock = w.clock := rfl
@[simp] theorem setOwed_plan (w : Work) (b : Bool) :
    (w.setOwed b).plan = w.plan := rfl
@[simp] theorem setOwed_general (w : Work) (b : Bool) :
    (w.setOwed b).general = w.general := rfl
@[simp] theorem setOwed_authority (w : Work) (b : Bool) :
    (w.setOwed b).authority = w.authority := rfl
@[simp] theorem setOwed_events (w : Work) (b : Bool) :
    (w.setOwed b).events = w.events := rfl
@[simp] theorem setOwed_switch (w : Work) (b : Bool) :
    (w.setOwed b).switch = w.switch := rfl
@[simp] theorem setOwed_portC (w : Work) (b : Bool) :
    (w.setOwed b).portC = w.portC := rfl
@[simp] theorem setOwed_portF1 (w : Work) (b : Bool) :
    (w.setOwed b).portF1 = w.portF1 := rfl
@[simp] theorem setOwed_portF2 (w : Work) (b : Bool) :
    (w.setOwed b).portF2 = w.portF2 := rfl
@[simp] theorem setOwed_serial (w : Work) (b : Bool) :
    (w.setOwed b).serial = w.serial := rfl
@[simp] theorem setOwed_choices (w : Work) (b : Bool) :
    (w.setOwed b).choices = w.choices := rfl
@[simp] theorem setOwed_pending (w : Work) (b : Bool) :
    (w.setOwed b).pending = w.pending := rfl
@[simp] theorem setOwed_agenda (w : Work) (b : Bool) :
    (w.setOwed b).agenda = w.agenda := rfl
@[simp] theorem setOwed_replying (w : Work) (b : Bool) :
    (w.setOwed b).replying = w.replying := rfl
@[simp] theorem setOwed_offerOwed (w : Work) (b : Bool) :
    (w.setOwed b).offerOwed = b := rfl
@[simp] theorem setOwed_port (w : Work) (b : Bool) (p : Port) :
    (w.setOwed b).port p = w.port p := by cases p <;> rfl

/-! ### setFeeder -/

@[simp] theorem setFeeder_zones (w : Work) (f : FeederId) (r : Feeder) :
    (w.setFeeder f r).zones = w.zones := rfl
@[simp] theorem setFeeder_houses (w : Work) (f : FeederId) (r : Feeder) :
    (w.setFeeder f r).houses = w.houses := rfl
@[simp] theorem setFeeder_tracker (w : Work) (f : FeederId) (r : Feeder) :
    (w.setFeeder f r).tracker = w.tracker := rfl
@[simp] theorem setFeeder_pumps (w : Work) (f : FeederId) (r : Feeder) :
    (w.setFeeder f r).pumps = w.pumps := rfl
@[simp] theorem setFeeder_profiles (w : Work) (f : FeederId) (r : Feeder) :
    (w.setFeeder f r).profiles = w.profiles := rfl
@[simp] theorem setFeeder_queue (w : Work) (f : FeederId) (r : Feeder) :
    (w.setFeeder f r).queue = w.queue := rfl
@[simp] theorem setFeeder_feeders (w : Work) (f : FeederId) (r : Feeder) :
    (w.setFeeder f r).feeders = w.feeders.set f r := rfl
@[simp] theorem setFeeder_interlocks (w : Work) (f : FeederId) (r : Feeder) :
    (w.setFeeder f r).interlocks = w.interlocks := rfl
@[simp] theorem setFeeder_inputs (w : Work) (f : FeederId) (r : Feeder) :
    (w.setFeeder f r).inputs = w.inputs := rfl
@[simp] theorem setFeeder_clock (w : Work) (f : FeederId) (r : Feeder) :
    (w.setFeeder f r).clock = w.clock := rfl
@[simp] theorem setFeeder_plan (w : Work) (f : FeederId) (r : Feeder) :
    (w.setFeeder f r).plan = w.plan := rfl
@[simp] theorem setFeeder_general (w : Work) (f : FeederId) (r : Feeder) :
    (w.setFeeder f r).general = w.general := rfl
@[simp] theorem setFeeder_authority (w : Work) (f : FeederId) (r : Feeder) :
    (w.setFeeder f r).authority = w.authority := rfl
@[simp] theorem setFeeder_events (w : Work) (f : FeederId) (r : Feeder) :
    (w.setFeeder f r).events = w.events := rfl
@[simp] theorem setFeeder_switch (w : Work) (f : FeederId) (r : Feeder) :
    (w.setFeeder f r).switch = w.switch := rfl
@[simp] theorem setFeeder_portC (w : Work) (f : FeederId) (r : Feeder) :
    (w.setFeeder f r).portC = w.portC := rfl
@[simp] theorem setFeeder_portF1 (w : Work) (f : FeederId) (r : Feeder) :
    (w.setFeeder f r).portF1 = w.portF1 := rfl
@[simp] theorem setFeeder_portF2 (w : Work) (f : FeederId) (r : Feeder) :
    (w.setFeeder f r).portF2 = w.portF2 := rfl
@[simp] theorem setFeeder_serial (w : Work) (f : FeederId) (r : Feeder) :
    (w.setFeeder f r).serial = w.serial := rfl
@[simp] theorem setFeeder_choices (w : Work) (f : FeederId) (r : Feeder) :
    (w.setFeeder f r).choices = w.choices := rfl
@[simp] theorem setFeeder_pending (w : Work) (f : FeederId) (r : Feeder) :
    (w.setFeeder f r).pending = w.pending := rfl
@[simp] theorem setFeeder_agenda (w : Work) (f : FeederId) (r : Feeder) :
    (w.setFeeder f r).agenda = w.agenda := rfl
@[simp] theorem setFeeder_replying (w : Work) (f : FeederId) (r : Feeder) :
    (w.setFeeder f r).replying = w.replying := rfl
@[simp] theorem setFeeder_offerOwed (w : Work) (f : FeederId) (r : Feeder) :
    (w.setFeeder f r).offerOwed = w.offerOwed := rfl
@[simp] theorem setFeeder_port (w : Work) (f : FeederId) (r : Feeder) (p : Port) :
    (w.setFeeder f r).port p = w.port p := by cases p <;> rfl

/-! ### setReplying -/

@[simp] theorem setReplying_zones (w : Work) (b : Bool) :
    (w.setReplying b).zones = w.zones := rfl
@[simp] theorem setReplying_houses (w : Work) (b : Bool) :
    (w.setReplying b).houses = w.houses := rfl
@[simp] theorem setReplying_tracker (w : Work) (b : Bool) :
    (w.setReplying b).tracker = w.tracker := rfl
@[simp] theorem setReplying_pumps (w : Work) (b : Bool) :
    (w.setReplying b).pumps = w.pumps := rfl
@[simp] theorem setReplying_profiles (w : Work) (b : Bool) :
    (w.setReplying b).profiles = w.profiles := rfl
@[simp] theorem setReplying_queue (w : Work) (b : Bool) :
    (w.setReplying b).queue = w.queue := rfl
@[simp] theorem setReplying_feeders (w : Work) (b : Bool) :
    (w.setReplying b).feeders = w.feeders := rfl
@[simp] theorem setReplying_interlocks (w : Work) (b : Bool) :
    (w.setReplying b).interlocks = w.interlocks := rfl
@[simp] theorem setReplying_inputs (w : Work) (b : Bool) :
    (w.setReplying b).inputs = w.inputs := rfl
@[simp] theorem setReplying_clock (w : Work) (b : Bool) :
    (w.setReplying b).clock = w.clock := rfl
@[simp] theorem setReplying_plan (w : Work) (b : Bool) :
    (w.setReplying b).plan = w.plan := rfl
@[simp] theorem setReplying_general (w : Work) (b : Bool) :
    (w.setReplying b).general = w.general := rfl
@[simp] theorem setReplying_authority (w : Work) (b : Bool) :
    (w.setReplying b).authority = w.authority := rfl
@[simp] theorem setReplying_events (w : Work) (b : Bool) :
    (w.setReplying b).events = w.events := rfl
@[simp] theorem setReplying_switch (w : Work) (b : Bool) :
    (w.setReplying b).switch = w.switch := rfl
@[simp] theorem setReplying_portC (w : Work) (b : Bool) :
    (w.setReplying b).portC = w.portC := rfl
@[simp] theorem setReplying_portF1 (w : Work) (b : Bool) :
    (w.setReplying b).portF1 = w.portF1 := rfl
@[simp] theorem setReplying_portF2 (w : Work) (b : Bool) :
    (w.setReplying b).portF2 = w.portF2 := rfl
@[simp] theorem setReplying_serial (w : Work) (b : Bool) :
    (w.setReplying b).serial = w.serial := rfl
@[simp] theorem setReplying_choices (w : Work) (b : Bool) :
    (w.setReplying b).choices = w.choices := rfl
@[simp] theorem setReplying_pending (w : Work) (b : Bool) :
    (w.setReplying b).pending = w.pending := rfl
@[simp] theorem setReplying_agenda (w : Work) (b : Bool) :
    (w.setReplying b).agenda = w.agenda := rfl
@[simp] theorem setReplying_replying (w : Work) (b : Bool) :
    (w.setReplying b).replying = b := rfl
@[simp] theorem setReplying_offerOwed (w : Work) (b : Bool) :
    (w.setReplying b).offerOwed = w.offerOwed := rfl
@[simp] theorem setReplying_port (w : Work) (b : Bool) (p : Port) :
    (w.setReplying b).port p = w.port p := by cases p <;> rfl

end Sys2Proof.Machine
end

