-- ==== Sys2Proof/Laws/Reacts.lean ====
section
/-! SUPPORT. What taking notifications does to the part, said once: Reacts v w, with a lemma for each operation of the sequencer, the arbiter, the demand unit and the interlock unit, up to settle. A statement about what a command leaves as it stands cites settle_reacts. -/

namespace Sys2Proof.Machine

/-- The part's own queue of a port only grows at its tail, only while the port takes a telegram, and
within its capacity. -/
structure OwnGrows (r r' : PortRecord) : Prop where
  tail : ∃ l, r'.own = r.own ++ l ∧ (r.takesOwn = false → l = [])
  room : r.own.length ≤ Config.ownCapacity → r'.own.length ≤ Config.ownCapacity

/-- What taking notifications leaves as it stands, and what it may only add to. -/
structure Reacts (v w : Work) : Prop where
  kept : w.toState.kept = v.toState.kept
  replying : w.replying = v.replying
  portC : v.replying = true → w.portC = v.portC
  latched : ∃ l, w.events.latched = v.events.latched ++ l
  grows : ∀ p, OwnGrows (v.port p) (w.port p)
  history : ∀ p : PumpId, ∃ l, w.pumps[p].history = v.pumps[p].history ++ l

/-! ### What the kept part says of each field -/

theorem kept_houses {s t : State} (h : t.kept = s.kept) : t.houses = s.houses := by
  have := congrArg State.houses h
  exact this
theorem kept_tracker {s t : State} (h : t.kept = s.kept) : t.tracker = s.tracker := by
  have := congrArg State.tracker h
  exact this
theorem kept_profiles {s t : State} (h : t.kept = s.kept) : t.profiles = s.profiles := by
  have := congrArg State.profiles h
  exact this
theorem kept_feeders {s t : State} (h : t.kept = s.kept) : t.feeders = s.feeders := by
  have := congrArg State.feeders h
  exact this
theorem kept_inputs {s t : State} (h : t.kept = s.kept) : t.inputs = s.inputs := by
  have := congrArg State.inputs h
  exact this
theorem kept_clock {s t : State} (h : t.kept = s.kept) : t.clock = s.clock := by
  have := congrArg State.clock h
  exact this
theorem kept_plan {s t : State} (h : t.kept = s.kept) : t.plan = s.plan := by
  have := congrArg State.plan h
  exact this
theorem kept_general {s t : State} (h : t.kept = s.kept) : t.general = s.general := by
  have := congrArg State.general h
  exact this
theorem kept_authority {s t : State} (h : t.kept = s.kept) : t.authority = s.authority := by
  have := congrArg State.authority h
  exact this
theorem kept_switch {s t : State} (h : t.kept = s.kept) : t.switch = s.switch := by
  have := congrArg State.switch h
  exact this
theorem kept_pending {s t : State} (h : t.kept = s.kept) : t.pending = s.pending := by
  have := congrArg State.pending h
  exact this

theorem kept_zone {s t : State} (h : t.kept = s.kept) (z : ZoneId) :
    t.zones[z].kept = s.zones[z].kept := by
  have := congrArg (fun x : State => x.zones[z]) h
  simpa [State.kept] using this

theorem kept_pump {s t : State} (h : t.kept = s.kept) (p : PumpId) :
    t.pumps[p].kept = s.pumps[p].kept := by
  have := congrArg (fun x : State => x.pumps[p]) h
  simpa [State.kept] using this

theorem kept_interlock {s t : State} (h : t.kept = s.kept) (e : EntryId) :
    t.interlocks[e].kept = s.interlocks[e].kept := by
  have := congrArg (fun x : State => x.interlocks[e]) h
  simpa [State.kept] using this

theorem kept_port {s t : State} (h : t.kept = s.kept) (p : Port) :
    (t.port p).kept = (s.port p).kept := by
  have c := congrArg State.portC h
  have f1 := congrArg State.portF1 h
  have f2 := congrArg State.portF2 h
  cases p
  · exact c
  · exact f1
  · exact f2

theorem kept_port_state {s t : State} (h : t.kept = s.kept) (p : Port) :
    (t.port p).state = (s.port p).state := by
  have := congrArg PortRecord.state (kept_port h p)
  exact this

/-! ### Reacts is a preorder -/

theorem OwnGrows.refl (r : PortRecord) : OwnGrows r r :=
  ⟨⟨[], by simp⟩, id⟩

theorem Reacts.refl (w : Work) : Reacts w w :=
  ⟨rfl, rfl, fun _ => rfl, ⟨[], by simp⟩, fun p => OwnGrows.refl _, fun p => ⟨[], by simp⟩⟩

theorem Reacts.trans {u v w : Work} (a : Reacts u v) (b : Reacts v w) : Reacts u w where
  kept := b.kept.trans a.kept
  replying := b.replying.trans a.replying
  portC h := (b.portC (a.replying.trans h)).trans (a.portC h)
  latched := by
    obtain ⟨l, hl⟩ := a.latched
    obtain ⟨m, hm⟩ := b.latched
    exact ⟨l ++ m, by rw [hm, hl, List.append_assoc]⟩
  grows p := by
    obtain ⟨⟨l, hl, ul⟩, rl⟩ := a.grows p
    obtain ⟨⟨m, hm, um⟩, rm⟩ := b.grows p
    refine ⟨⟨l ++ m, by rw [hm, hl, List.append_assoc], fun h => ?_⟩, fun h => rm (rl h)⟩
    have e := ul h
    subst e
    have full : (v.port p).takesOwn = false := by
      rw [← h, PortRecord.takesOwn, PortRecord.takesOwn, kept_port_state a.kept, hl,
        List.append_nil]
    rw [um full, List.nil_append]
  history p := by
    obtain ⟨l, hl⟩ := a.history p
    obtain ⟨m, hm⟩ := b.history p
    exact ⟨l ++ m, by rw [hm, hl, List.append_assoc]⟩

theorem reacts_foldl {α : Type} (f : Work → α → Work) (h : ∀ w a, Reacts w (f w a))
    (w : Work) (l : List α) : Reacts w (l.foldl f w) := by
  induction l generalizing w with
  | nil => exact Reacts.refl w
  | cons a l ih => exact (h w a).trans (ih (f w a))

theorem reacts_ite (c : Prop) [Decidable c] {u v w : Work} (a : Reacts u v) (b : Reacts u w) :
    Reacts u (if c then v else w) := by
  split
  · exact a
  · exact b

/-! ### Basic updates -/

/-- An update that leaves all that Reacts looks at. -/
theorem reacts_of_same {v w : Work} (k : w.toState.kept = v.toState.kept)
    (r : w.replying = v.replying) (e : w.events.latched = v.events.latched)
    (p : ∀ q, w.port q = v.port q) (h : ∀ q : PumpId, w.pumps[q].history = v.pumps[q].history) :
    Reacts v w :=
  ⟨k, r, fun _ => p .c, ⟨[], by simp [e]⟩, fun q => by rw [p q]; exact OwnGrows.refl _,
    fun q => ⟨[], by rw [h q, List.append_nil]⟩⟩

theorem reacts_push (w : Work) (r : Reaction) : Reacts w (w.push r) :=
  reacts_of_same rfl rfl rfl (fun _ => rfl) fun _ => rfl

theorem reacts_pushIf (w : Work) (c : Bool) (r : Reaction) : Reacts w (w.pushIf c r) := by
  cases c
  · exact Reacts.refl w
  · exact reacts_push w r

theorem reacts_setZone (w : Work) (z : ZoneId) (r : Zone) (k : r.kept = w.zones[z].kept) :
    Reacts w (w.setZone z r) := by
  refine reacts_of_same ?_ rfl rfl (fun q => by cases q <;> rfl) fun _ => rfl
  have : (fun y : ZoneId => (w.setZone z r).zones[y].kept) = fun y => w.zones[y].kept := by
    funext y
    by_cases h : z = y
    · subst h; rw [setZone_zones_self, k]
    · rw [setZone_zones_of_ne w r h]
  simp only [State.kept, this]
  rfl

theorem reacts_setPump (w : Work) (p : PumpId) (r : Pump) (k : r.kept = w.pumps[p].kept)
    (hist : ∃ l, r.history = w.pumps[p].history ++ l) : Reacts w (w.setPump p r) where
  kept := by
    have : (fun q : PumpId => (w.setPump p r).pumps[q].kept) = fun q => w.pumps[q].kept := by
      funext q
      by_cases h : p = q
      · subst h; rw [setPump_pumps_self, k]
      · rw [setPump_pumps_of_ne w r h]
    simp only [State.kept, this]
    rfl
  replying := rfl
  portC _ := rfl
  latched := ⟨[], by simp⟩
  grows q := by cases q <;> exact OwnGrows.refl _
  history q := by
    by_cases h : p = q
    · subst h; rw [setPump_pumps_self]; exact hist
    · rw [setPump_pumps_of_ne w r h]; exact ⟨[], by simp⟩

theorem reacts_setInterlock (w : Work) (e : EntryId) (r : Interlock)
    (k : r.kept = w.interlocks[e].kept) : Reacts w (w.setInterlock e r) := by
  refine reacts_of_same ?_ rfl rfl (fun q => by cases q <;> rfl) fun _ => rfl
  have : (fun f : EntryId => (w.setInterlock e r).interlocks[f].kept) =
      fun f => w.interlocks[f].kept := by
    funext f
    by_cases h : e = f
    · subst h; rw [setInterlock_interlocks_self, k]
    · rw [setInterlock_interlocks_of_ne w r h]
  simp only [State.kept, this]
  rfl

theorem reacts_queue (w : Work) (q : List QueueEntry) : Reacts w (w.setQueue q) :=
  reacts_of_same rfl rfl rfl (fun p => by cases p <;> rfl) fun _ => rfl

theorem reacts_countSerial (w : Work) : Reacts w w.countSerial :=
  reacts_of_same rfl rfl rfl (fun p => by cases p <;> rfl) fun _ => rfl

theorem reacts_agenda (w : Work) (l : List Reaction) (c : List Nat) :
    Reacts w { w with agenda := l, choices := c } :=
  reacts_of_same rfl rfl rfl (fun p => by cases p <;> rfl) fun _ => rfl

theorem reacts_owed (w : Work) (b : Bool) : Reacts w (w.setOwed b) :=
  reacts_of_same rfl rfl rfl (fun p => by cases p <;> rfl) fun _ => rfl

theorem reacts_events (w : Work) (e : Events) (h : ∃ l, e.latched = w.events.latched ++ l) :
    Reacts w (w.setEvents e) :=
  ⟨rfl, rfl, fun _ => rfl, h, fun p => by cases p <;> exact OwnGrows.refl _,
    fun _ => ⟨[], by simp⟩⟩

theorem reacts_placeOwn (w : Work) (p : Port) (t : OwnTelegram)
    (room : (w.port p).takesOwn = true) (free : p = .c → w.replying = false) :
    Reacts w (w.placeOwn p t) where
  kept := by cases p <;> rfl
  replying := by cases p <;> rfl
  portC h := by
    cases p
    · simp [free rfl] at h
    · rfl
    · rfl
  latched := ⟨[], by simp [Work.placeOwn]⟩
  grows q := by
    simp only [PortRecord.takesOwn, Bool.and_eq_true, beq_iff_eq, decide_eq_true_eq] at room
    by_cases h : p = q
    · subst h
      simp only [Work.placeOwn, setPort_port_self]
      refine ⟨⟨[t], rfl, fun n => ?_⟩, fun _ => by simp; omega⟩
      simp [PortRecord.takesOwn, room.1, room.2] at n
    · simp only [Work.placeOwn, setPort_port_of_ne _ _ h]
      exact OwnGrows.refl _
  history q := ⟨[], by simp [Work.placeOwn]⟩

/-! ### The same as a last operation -/

theorem Reacts.push {u w : Work} (h : Reacts u w) (r : Reaction) : Reacts u (w.push r) :=
  h.trans (reacts_push w r)

theorem Reacts.pushIf {u w : Work} (h : Reacts u w) (c : Bool) (r : Reaction) :
    Reacts u (w.pushIf c r) :=
  h.trans (reacts_pushIf w c r)

theorem Reacts.setPump {u w : Work} (h : Reacts u w) (p : PumpId) (r : Pump)
    (k : r.kept = w.pumps[p].kept) (hist : ∃ l, r.history = w.pumps[p].history ++ l) :
    Reacts u (w.setPump p r) :=
  h.trans (reacts_setPump w p r k hist)

theorem Reacts.setQueue {u w : Work} (h : Reacts u w) (q : List QueueEntry) :
    Reacts u (w.setQueue q) :=
  h.trans (reacts_queue w q)

end Sys2Proof.Machine
end

