-- ==== Sys2Proof/Laws/ReactsOps.lean ====
section
/-! SUPPORT. Reacts for each operation of the blocks. -/

namespace Sys2Proof.Machine

/-! ### Alerts and flags -/

theorem reacts_offerAlert (w : Work) (h : w.replying = false) : Reacts w w.offerAlert := by
  unfold Work.offerAlert
  split
  · split
    · exact reacts_events w _ ⟨[], by simp⟩
    · split
      · rename_i room
        exact (reacts_placeOwn w .c _ room fun _ => h).trans
          (reacts_events _ _ ⟨[], by simp [Work.placeOwn]⟩)
      · exact Reacts.refl w
  · exact Reacts.refl w

theorem reacts_trigger (w : Work) : Reacts w w.trigger := by
  unfold Work.trigger
  refine (reacts_events w { w.events with alertPending := true } ⟨[], by simp⟩).trans ?_
  dsimp only
  split
  · exact reacts_owed _ true
  · rename_i h
    exact reacts_offerAlert _ (by simpa using h)

theorem reacts_latch (w : Work) (f : Flag) : Reacts w (w.latch f) := by
  unfold Work.latch
  split
  · exact Reacts.refl w
  · refine (reacts_events w { w.events with latched := w.events.latched ++ [⟨f, w.now⟩] }
      ⟨_, rfl⟩).trans ?_
    dsimp only
    split
    · exact reacts_trigger _
    · exact Reacts.refl _

/-! ### The sequencer -/

theorem reacts_commitPump (w : Work) (p : PumpId) (new : Pump) (k : new.kept = w.pumps[p].kept)
    (hist : ∃ l, new.history = w.pumps[p].history ++ l) : Reacts w (w.commitPump p new) := by
  unfold Work.commitPump
  dsimp only
  refine Reacts.trans ?_ (reacts_pushIf _ _ _)
  refine Reacts.trans ?_ (reacts_pushIf _ _ _)
  refine Reacts.trans ?_ (reacts_pushIf _ _ _)
  refine Reacts.trans ?_ (reacts_pushIf _ _ _)
  refine (reacts_setPump w p new k hist).trans ?_
  split
  · exact reacts_queue _ _
  · exact Reacts.refl _

theorem reacts_commitResting (w : Work) (p : PumpId) (new : Pump)
    (k : new.kept = w.pumps[p].kept) (hist : ∃ l, new.history = w.pumps[p].history ++ l) :
    Reacts w (w.commitResting p new) := by
  unfold Work.commitResting
  refine Reacts.pushIf ?_ _ _
  exact reacts_commitPump w p _ k hist

theorem reacts_startSettle (w : Work) (z : ZoneId) : Reacts w (w.startSettle z) := by
  unfold Work.startSettle
  dsimp only
  split
  · refine Reacts.push (Reacts.push ?_ _) _
    exact reacts_setZone w z _ rfl
  · exact reacts_setZone w z _ rfl

/-- A telegram for a pump is never placed on port C: a route entry names F1 or F2. -/
theorem placement_ne_c (s : State) (p : PumpId) (port : Port) (a : Addr)
    (h : s.placement p = some (port, a)) : port ≠ .c ∧ (s.port port).takesOwn = true := by
  unfold State.placement at h
  dsimp only at h
  split at h
  · split at h
    · split at h
      · rename_i hr
        split at h
        · rename_i room
          cases h
          refine ⟨?_, room⟩
          rintro rfl
          simp only [State.routeTo, Option.map_eq_some_iff] at hr
          obtain ⟨f, -, hf⟩ := hr
          cases f <;> simp [FieldPort.port] at hf
        · cases h
      · cases h
    · cases h
  · cases h

theorem reacts_issueOne (w : Work) (p : PumpId) (c : PumpCommand) :
    Reacts w (w.issueOne p c) := by
  unfold Work.issueOne
  split
  · rename_i port a h
    have hp := placement_ne_c _ _ _ _ h
    dsimp only
    refine Reacts.trans ?_ (reacts_countSerial _)
    refine Reacts.setPump ?_ p _ ?_ ?_
    · exact reacts_placeOwn w port _ hp.2 fun e => absurd e hp.1
    · rfl
    · exact ⟨[], by simp⟩
  · exact reacts_setPump w p _ rfl ⟨[], by simp⟩

theorem reacts_tryPending (w : Work) (port : Port) (p : PumpId) :
    Reacts w (w.tryPending port p) := by
  unfold Work.tryPending
  split
  · exact reacts_ite _ (reacts_issueOne _ _ _) (Reacts.refl _)
  · exact Reacts.refl _

theorem reacts_placePending (w : Work) (port : Port) : Reacts w (w.placePending port) := by
  unfold Work.placePending
  exact reacts_foldl _ (fun w p => reacts_tryPending w port p) w _

theorem reacts_issue (w : Work) (p : PumpId) (c : PumpCommand) : Reacts w (w.issue p c) := by
  unfold Work.issue
  dsimp only
  refine (reacts_issueOne w p c).trans ?_
  split
  · exact reacts_placePending _ _
  · exact Reacts.refl _

theorem reacts_discarded (w : Work) (p : PumpId) (n : Nat) : Reacts w (w.discarded p n) := by
  unfold Work.discarded
  dsimp only
  split
  · exact reacts_ite _ (reacts_setPump _ _ _ rfl ⟨[], by simp⟩) (Reacts.refl _)
  · exact Reacts.refl _

/-- A change of a pump that keeps what Reacts looks at, then a telegram. -/
theorem reacts_commit_issue (w : Work) (p : PumpId) (x : Pump) (c : PumpCommand)
    (k : x.kept = w.pumps[p].kept) (hist : ∃ l, x.history = w.pumps[p].history ++ l) :
    Reacts w ((w.commitPump p x).issue p c) :=
  (reacts_commitPump w p x k hist).trans (reacts_issue _ _ _)

theorem reacts_set_issue (w : Work) (p : PumpId) (x : Pump) (c : PumpCommand)
    (k : x.kept = w.pumps[p].kept) (hist : ∃ l, x.history = w.pumps[p].history ++ l) :
    Reacts w ((w.setPump p x).issue p c) :=
  (reacts_setPump w p x k hist).trans (reacts_issue _ _ _)

theorem reacts_beginStop (w : Work) (p : PumpId) : Reacts w (w.beginStop p) := by
  unfold Work.beginStop
  dsimp only
  split
  · exact reacts_commit_issue w p _ _ rfl ⟨[], by simp⟩
  · exact reacts_commit_issue w p _ _ rfl ⟨[], by simp⟩

theorem reacts_testStops (w : Work) (z : ZoneId) : Reacts w (w.testStops z) := by
  unfold Work.testStops
  split
  · exact Reacts.refl w
  · exact reacts_beginStop _ _

theorem reacts_stopTaken (w : Work) (p : PumpId) : Reacts w (w.stopTaken p).2 := by
  unfold Work.stopTaken
  dsimp only
  repeat' split
  all_goals first
    | exact Reacts.refl w
    | exact reacts_commitPump w p _ rfl ⟨[], by simp⟩
    | exact reacts_beginStop w p
    | exact reacts_issue w p _

theorem reacts_speedRequest (w : Work) (p : PumpId) (v : Nat) :
    Reacts w (w.speedRequest p v).2 := by
  unfold Work.speedRequest
  dsimp only
  split
  all_goals first
    | exact Reacts.refl w
    | exact reacts_issue w p _

theorem reacts_startAnswered (w : Work) (p : PumpId) : Reacts w (w.startAnswered p).2 := by
  unfold Work.startAnswered
  dsimp only
  repeat' split
  all_goals first
    | exact Reacts.refl w
    | exact reacts_commitPump w p _ rfl ⟨[], by simp⟩

theorem reacts_grant (w : Work) (p : PumpId) : Reacts w (w.grant p) := by
  unfold Work.grant
  dsimp only
  exact reacts_commit_issue w p _ _ rfl ⟨_, rfl⟩

theorem reacts_testConfirm (w : Work) (p : PumpId) : Reacts w (w.testConfirm p) := by
  unfold Work.testConfirm
  dsimp only
  split
  · refine Reacts.trans ?_ (reacts_startSettle _ _)
    exact reacts_commitPump w p _ rfl ⟨[], by simp⟩
  · exact Reacts.refl w

theorem reacts_commandCompleted (w : Work) (p : PumpId) (n : Nat) :
    Reacts w (w.commandCompleted p n) := by
  have step : Reacts w (w.setPump p { w.pumps[p] with awaited := none }) :=
    reacts_setPump w p _ rfl ⟨[], by simp⟩
  unfold Work.commandCompleted
  dsimp only
  split
  · exact Reacts.refl w
  · split
    · split
      · exact step
      · refine step.trans ?_
        repeat' split
        all_goals first
          | exact Reacts.refl _
          | exact reacts_testConfirm _ _
          | (refine reacts_setPump _ _ _ ?_ ?_ <;> simp [Pump.kept])
    · exact Reacts.refl w

theorem reacts_dwellExpired (w : Work) (p : PumpId) : Reacts w (w.dwellExpired p) := by
  unfold Work.dwellExpired
  dsimp only
  repeat' split
  all_goals first
    | exact reacts_set_issue w p _ _ rfl ⟨[], by simp⟩
    | exact reacts_setPump w p _ rfl ⟨[], by simp⟩

theorem latch_pumps (w : Work) (f : Flag) : (w.latch f).pumps = w.pumps := by
  have offer : ∀ v : Work, v.offerAlert.pumps = v.pumps := by
    intro v
    unfold Work.offerAlert
    repeat' split
    all_goals rfl
  unfold Work.latch Work.trigger
  dsimp only
  repeat' split
  all_goals first | rfl | (rw [offer]; rfl)

theorem reacts_startFailed (w : Work) (p : PumpId) : Reacts w (w.startFailed p) := by
  unfold Work.startFailed
  dsimp only
  refine (reacts_latch w (.pump .failToStart p)).trans (reacts_commit_issue _ p _ _ ?_ ?_)
  · rw [latch_pumps]; rfl
  · rw [latch_pumps]; exact ⟨[], by simp [Pump.endProfile]⟩

theorem reacts_stopFailed (w : Work) (p : PumpId) : Reacts w (w.stopFailed p) := by
  unfold Work.stopFailed
  dsimp only
  split
  · refine (reacts_latch w (.pump .failToStop p)).trans (reacts_commitResting _ p _ ?_ ?_)
    · rw [latch_pumps]; rfl
    · rw [latch_pumps]; exact ⟨[], by simp⟩
  · exact reacts_set_issue w p _ _ rfl ⟨[], by simp⟩

theorem reacts_tripEdge (w : Work) (p : PumpId) : Reacts w (w.tripEdge p) := by
  unfold Work.tripEdge
  dsimp only
  refine (reacts_latch w (.pump .outstationTrip p)).trans ?_
  split
  · exact reacts_setPump _ p _ rfl ⟨[], by simp⟩
  · exact reacts_commitResting _ p _ rfl ⟨[], by simp [Pump.endProfile]⟩
  · exact reacts_commitResting _ p _ rfl ⟨[], by simp [Pump.endProfile]⟩
  · exact reacts_commitResting _ p _ rfl ⟨[], by simp⟩
  · exact reacts_commitPump _ p _ rfl ⟨[], by simp⟩

theorem reacts_notOffered (w : Work) (p : PumpId) (r : PumpReport) :
    Reacts w (w.notOffered p r) := by
  unfold Work.notOffered
  dsimp only
  repeat' split
  · exact reacts_commitPump w p _ rfl ⟨[], by simp [Pump.endProfile]⟩
  · exact reacts_commitResting w p _ rfl ⟨[], by simp [Pump.endProfile]⟩
  · exact reacts_commitPump w p _ rfl ⟨[], by simp [Pump.endProfile]⟩
  · exact reacts_commitPump w p _ rfl ⟨[], by simp⟩
  · refine (reacts_latch w (.pump .uncommandedStop p)).trans (reacts_commitResting _ p _ ?_ ?_)
    · rw [latch_pumps]; rfl
    · rw [latch_pumps]; exact ⟨[], by simp⟩
  · exact Reacts.refl w

theorem reacts_offeredIdle (w : Work) (p : PumpId) (r : PumpReport) :
    Reacts w (w.offeredIdle p r) := by
  unfold Work.offeredIdle
  dsimp only
  repeat' split
  · exact reacts_commitPump w p _ rfl ⟨[], by simp [Pump.adopted]⟩
  · refine (reacts_latch w (.pump .uncommandedRun p)).trans (reacts_commitPump _ p _ ?_ ?_)
    · rw [latch_pumps]; rfl
    · rw [latch_pumps]; exact ⟨[], by simp [Pump.adopted]⟩
  · exact reacts_commitPump w p _ rfl ⟨[], by simp⟩
  · exact Reacts.refl w

theorem reacts_reportAgainst (w : Work) (p : PumpId) (r : PumpReport) :
    Reacts w (w.reportAgainst p r) := by
  unfold Work.reportAgainst
  dsimp only
  split
  · exact reacts_tripEdge w p
  · repeat' split
    all_goals first
      | exact Reacts.refl w
      | exact reacts_offeredIdle w p r
      | exact reacts_notOffered w p r
      | exact reacts_testConfirm w p
      | exact reacts_commitPump w p _ rfl ⟨[], by simp [Pump.adopted]⟩
      | (refine (reacts_latch w (.pump .uncommandedStop p)).trans (reacts_commitResting _ p _ ?_ ?_) <;> rw [latch_pumps]
         · rfl
         · exact ⟨[], by simp⟩)
      | (refine Reacts.trans ?_ (reacts_startSettle _ _)
         exact reacts_commitResting w p _ rfl ⟨[], by simp [Pump.endProfile]⟩)

theorem reacts_tripStop (w : Work) (p : PumpId) (x : Pump) (k : x.kept = w.pumps[p].kept)
    (hist : ∃ l, x.history = w.pumps[p].history ++ l) : Reacts w (w.tripStop p x) :=
  reacts_commit_issue w p _ _ k hist

theorem reacts_addLockout (w : Work) (p : PumpId) (m : Member) (t : Tag) :
    Reacts w (w.addLockout p m t) := by
  unfold Work.addLockout
  dsimp only
  split
  · exact Reacts.refl w
  · repeat' split
    all_goals first
      | exact reacts_commitPump w p _ rfl ⟨[], by simp⟩
      | exact reacts_setPump w p _ rfl ⟨[], by simp⟩
      | exact reacts_tripStop w p _ rfl ⟨[], by simp [Pump.endProfile]⟩

theorem reacts_removeLockout (w : Work) (p : PumpId) (m : Member) :
    Reacts w (w.removeLockout p m) := by
  unfold Work.removeLockout
  dsimp only
  split
  · split
    · refine reacts_commitPump w p _ ?_ ⟨[], ?_⟩
      · unfold Pump.released; repeat' split
        all_goals rfl
      · unfold Pump.released; repeat' split
        all_goals simp [Pump.adopted]
    · exact reacts_setPump w p _ rfl ⟨[], by simp⟩
  · exact Reacts.refl w

theorem reacts_addInhibit (w : Work) (p : PumpId) (e : EntryId) : Reacts w (w.addInhibit p e) :=
  reacts_setPump w p _ rfl ⟨[], by simp⟩

theorem reacts_removeInhibit (w : Work) (p : PumpId) (e : EntryId) :
    Reacts w (w.removeInhibit p e) := by
  unfold Work.removeInhibit
  dsimp only
  split
  · refine Reacts.pushIf ?_ _ _
    exact reacts_setPump w p _ rfl ⟨[], by simp⟩
  · exact Reacts.refl w

theorem reacts_releaseEntry (w : Work) (e : EntryId) (p : PumpId) :
    Reacts w (w.releaseEntry e p) := by
  unfold Work.releaseEntry
  dsimp only
  split
  · exact (reacts_removeLockout w p _).trans (reacts_removeInhibit _ _ _)
  · exact reacts_removeInhibit _ _ _

theorem reacts_pausePump (w : Work) (online : Bool) (p : PumpId) :
    Reacts w (w.pausePump online p) := by
  unfold Work.pausePump
  dsimp only
  split
  · exact reacts_setPump w p _ rfl ⟨[], by simp⟩
  · exact reacts_setPump w p _ rfl ⟨[], by simp⟩

theorem reacts_placeHouse (w : Work) (h : HouseId) : Reacts w (w.placeHouse h) := by
  unfold Work.placeHouse
  split
  · exact reacts_placePending w _
  · exact Reacts.refl w

theorem reacts_pauseHouse (w : Work) (h : HouseId) (online : Bool) :
    Reacts w (w.pauseHouse h online) := by
  have all : Reacts w ((pumpsOf h).foldl (fun w p => w.pausePump online p) w) :=
    reacts_foldl _ (fun v p => reacts_pausePump v online p) w _
  unfold Work.pauseHouse
  dsimp only
  split
  · exact all.trans (reacts_placeHouse _ _)
  · exact all

/-! ### The arbiter -/

theorem reacts_enqueue (w : Work) (p : PumpId) (o : Origin) (n : Nat) :
    Reacts w (w.enqueue p o n) := by
  unfold Work.enqueue
  dsimp only
  generalize insertEntry _ w.queue = q
  refine Reacts.push ?_ _
  exact (reacts_queue w q).trans (reacts_commitPump (w.setQueue q) p _ rfl ⟨[], by simp⟩)

theorem reacts_startRequest (w : Work) (p : PumpId) (o : Origin) (n : Nat) :
    Reacts w (w.startRequest p o n).2 := by
  unfold Work.startRequest
  split
  · split
    · exact reacts_enqueue w p o n
    · dsimp only
      exact reacts_ite _ (reacts_latch w _) (Reacts.refl w)
  · exact Reacts.refl w
  · exact reacts_startAnswered w p

theorem reacts_dequeue (w : Work) (p : PumpId) : Reacts w (w.dequeue p) :=
  reacts_commitPump w p _ rfl ⟨[], by simp⟩

theorem reacts_stopRequest (w : Work) (p : PumpId) : Reacts w (w.stopRequest p).2 := by
  unfold Work.stopRequest
  split
  · exact reacts_dequeue w p
  · exact reacts_stopTaken w p

theorem reacts_timeOut (w : Work) (p : PumpId) : Reacts w (w.timeOut p) :=
  (reacts_dequeue w p).trans (reacts_latch _ _)

theorem reacts_timeOutAll (w : Work) : Reacts w w.timeOutAll := by
  unfold Work.timeOutAll
  exact reacts_foldl _ (fun w (e : QueueEntry) => reacts_timeOut w e.pump) w _

theorem reacts_removeEntries (w : Work) (which : QueueEntry → Bool) :
    Reacts w (w.removeEntries which) := by
  unfold Work.removeEntries
  exact reacts_foldl _ (fun w (e : QueueEntry) => reacts_dequeue w e.pump) w _

theorem reacts_testEntry (w : Work) (failed : List PumpId) (p : PumpId) :
    Reacts w (w.testEntry failed p).1 := by
  unfold Work.testEntry
  split
  · split
    · exact (reacts_grant w p).trans (reacts_queue _ _)
    · exact Reacts.refl w
  · exact Reacts.refl w

theorem reacts_testEntries (w : Work) (failed : List PumpId) (l : List PumpId) :
    Reacts w (w.testEntries failed l) := by
  induction l generalizing w failed with
  | nil => exact Reacts.refl w
  | cons p l ih =>
    unfold Work.testEntries
    exact (reacts_testEntry w failed p).trans (ih _ _)

theorem reacts_evaluateQueue (w : Work) : Reacts w w.evaluateQueue := reacts_testEntries _ _ _

theorem reacts_settleExpired (w : Work) (z : ZoneId) : Reacts w (w.settleExpired z) := by
  unfold Work.settleExpired
  refine Reacts.push (Reacts.push ?_ _) _
  exact reacts_setZone w z _ rfl

/-! ### The demand unit -/

theorem reacts_startMissing (w : Work) (z : ZoneId) (n : Nat) :
    Reacts w (w.startMissing z n) := by
  induction n generalizing w with
  | zero => exact Reacts.refl w
  | succ n ih =>
    unfold Work.startMissing
    split
    · exact Reacts.refl w
    · rename_i p _
      have h := reacts_startRequest w p .demand w.zones[z].demandPriority
      split
      · rename_i e; rw [e] at h; exact h.trans (ih _)
      · rename_i e; rw [e] at h; exact h

theorem reacts_shedSurplus (w : Work) (z : ZoneId) (n : Nat) :
    Reacts w (w.shedSurplus z n) := by
  induction n generalizing w with
  | zero => exact Reacts.refl w
  | succ n ih =>
    unfold Work.shedSurplus
    split
    · exact (reacts_stopRequest w _).trans (ih _)
    · split
      · exact (reacts_stopRequest w _).trans (ih _)
      · exact Reacts.refl w

theorem reacts_reconcile (w : Work) (z : ZoneId) : Reacts w (w.reconcile z) := by
  unfold Work.reconcile
  exact reacts_ite _ (reacts_startMissing _ _ _) (reacts_shedSurplus _ _ _)

theorem reacts_boundCall (w : Work) (z : ZoneId) : Reacts w (w.boundCall z) :=
  reacts_setZone w z _ rfl

theorem reacts_changeCall (w : Work) (z : ZoneId) (n : Nat) : Reacts w (w.changeCall z n) :=
  reacts_setZone w z _ rfl

theorem reacts_stepCall (w : Work) (z : ZoneId) (a b : Nat) : Reacts w (w.stepCall z a b) := by
  unfold Work.stepCall
  dsimp only
  repeat' split
  all_goals first
    | exact Reacts.refl w
    | exact reacts_changeCall w z _

theorem reacts_evaluateZone (w : Work) (z : ZoneId) : Reacts w (w.evaluateZone z) := by
  unfold Work.evaluateZone
  dsimp only
  split
  · exact reacts_latch w _
  · split
    · exact ((reacts_boundCall w z).trans (reacts_stepCall _ _ _ _)).trans (reacts_reconcile _ _)
    · exact Reacts.refl w

theorem reacts_evaluateReading (w : Work) (z : ZoneId) (l : Nat) (q : Quality) (t : Count) :
    Reacts w (w.evaluateReading z l q t) := by
  unfold Work.evaluateReading
  dsimp only
  refine Reacts.trans ?_ (reacts_evaluateZone _ _)
  exact reacts_setZone w z _ rfl

theorem reacts_pumpNotified (w : Work) (z : ZoneId) : Reacts w (w.pumpNotified z) := by
  unfold Work.pumpNotified
  repeat' split
  · exact (reacts_boundCall w z).trans (reacts_reconcile _ _)
  · exact reacts_reconcile w z
  · exact Reacts.refl w

theorem reacts_stepExpired (w : Work) (z : ZoneId) : Reacts w (w.stepExpired z) := by
  unfold Work.stepExpired
  dsimp only
  have h := reacts_setZone w z { w.zones[z] with stepTimer := .idle } rfl
  split
  · exact h.trans (reacts_evaluateZone _ _)
  · exact h

/-! ### The interlock unit -/

theorem reacts_addMember (w : Work) (e : EntryId) (a : Action) (p : PumpId) :
    Reacts w (w.addMember e a p) := by
  cases a
  · exact reacts_addLockout w p _ _
  · exact reacts_addLockout w p _ _
  · exact reacts_addInhibit w p e

theorem reacts_setPresent (w : Work) (e : EntryId) (b : Bool) : Reacts w (w.setPresent e b) :=
  reacts_setInterlock w e _ rfl

theorem reacts_applyMembers (w : Work) (e : EntryId) (c : InterlockContent) :
    Reacts w (w.applyMembers e c) := by
  unfold Work.applyMembers
  exact reacts_foldl _ (fun w p => reacts_addMember w e c.action p) w _

theorem reacts_releaseAll (w : Work) (e : EntryId) : Reacts w (w.releaseAll e) := by
  unfold Work.releaseAll
  exact reacts_foldl _ (fun w p => reacts_releaseEntry w e p) w _

theorem reacts_startCause (w : Work) (e : EntryId) : Reacts w (w.startCause e) := by
  unfold Work.startCause
  split
  · exact (reacts_setPresent w e true).trans (reacts_applyMembers _ _ _)
  · exact Reacts.refl w

theorem reacts_endCause (w : Work) (e : EntryId) : Reacts w (w.endCause e) :=
  (reacts_setPresent w e false).trans (reacts_releaseAll _ _)

theorem reacts_judge (w : Work) (e : EntryId) (v : Cause → Bool → Option Bool) :
    Reacts w (w.judge e v) := by
  unfold Work.judge
  dsimp only
  repeat' split
  all_goals first
    | exact Reacts.refl w
    | exact reacts_startCause w e
    | exact reacts_endCause w e

theorem reacts_judgeAll (w : Work) (v : Cause → Bool → Option Bool) :
    Reacts w (w.judgeAll v) := by
  unfold Work.judgeAll
  exact reacts_foldl _ (fun w e => reacts_judge w e v) w _

theorem reacts_rederiveEntry (w : Work) (e : EntryId) : Reacts w (w.rederiveEntry e) := by
  unfold Work.rederiveEntry
  dsimp only
  refine Reacts.trans (reacts_setPresent w e (w.freshField w.interlocks[e])) ?_
  split
  · exact (reacts_foldl _ (fun v p => reacts_addMember v e _ p) _ _).trans
      (reacts_foldl _ (fun v p => reacts_releaseEntry v e p) _ _)
  · exact reacts_releaseAll _ _

theorem reacts_rederive (w : Work) : Reacts w w.rederive := by
  unfold Work.rederive
  exact reacts_foldl _ (fun w e => reacts_rederiveEntry w e) w _

theorem reacts_clearMembers (w : Work) (p : PumpId) (kept : Bool) (l : List Member) :
    Reacts w (w.clearMembers p kept l).2 := by
  induction l generalizing w kept with
  | nil => exact Reacts.refl w
  | cons m l ih =>
    unfold Work.clearMembers
    repeat' split
    · exact ih _ _
    · exact (reacts_removeLockout w p m).trans (ih _ _)
    · exact ih _ _

/-! ### A whole step -/

theorem reacts_react (w : Work) (r : Reaction) : Reacts w (w.react r) := by
  cases r
  · exact reacts_evaluateReading w _ _ _ _
  · exact reacts_judgeAll w _
  · exact reacts_judgeAll w _
  · exact reacts_pauseHouse w _ _
  · exact reacts_pumpNotified w _
  · exact reacts_evaluateQueue w
  · exact reacts_testStops w _

theorem reacts_next (w v : Work) (r : Reaction) (h : w.next = some (r, v)) : Reacts w v := by
  unfold Work.next at h
  split at h
  · cases h
  · simp only [Option.map_eq_some_iff, Prod.mk.injEq] at h
    obtain ⟨x, -, -, rfl⟩ := h
    exact reacts_agenda w _ _
  · simp only [Option.map_eq_some_iff, Prod.mk.injEq] at h
    obtain ⟨x, -, -, rfl⟩ := h
    exact reacts_agenda w _ _

theorem reacts_drain (n : Nat) (w : Work) : Reacts w (Work.drain n w) := by
  induction n generalizing w with
  | zero => exact Reacts.refl w
  | succ n ih =>
    unfold Work.drain
    split
    · exact Reacts.refl w
    · rename_i r v h
      exact ((reacts_next w v r h).trans (reacts_react v r)).trans (ih _)

/-- Whatever follows from an operation leaves the kept part of the state as the operation left it. -/
theorem settle_reacts (w : Work) : Reacts w w.settle := reacts_drain _ _

end Sys2Proof.Machine
end

