-- ==== Sys2Proof/Laws/Advance.lean ====
section
/-! SUPPORT. What finishing an advance leaves of the clock (R113): each periodic event is taken as often as it is due, and the count and the time of day stand. -/

namespace Sys2Proof.Machine

/-- Notifications leave the clock as it stands. -/
theorem settle_clock (w : Work) : w.settle.clock = w.clock := kept_clock (settle_reacts w).kept

theorem latch_clock (w : Work) (f : Flag) : (w.latch f).clock = w.clock :=
  kept_clock (reacts_latch w f).kept

theorem select_clock (w : Work) : w.select.clock = w.clock := by
  simp [Work.select, Work.ifLimitRose]

theorem swapDecision_clock (w : Work) : w.swapDecision.clock = w.clock := by
  unfold Work.swapDecision
  split <;> simp [latch_clock]

theorem pruneHistories_clock (w : Work) : w.pruneHistories.clock = w.clock := by
  unfold Work.pruneHistories
  induction allPumps generalizing w with
  | nil => rfl
  | cons p l ih => rw [List.foldl_cons, ih]; simp

theorem minuteTaken_clock (w : Work) :
    w.minuteTaken.clock = { w.clock with minutesDue := w.clock.minutesDue - 1 } := by
  unfold Work.minuteTaken
  dsimp only
  split <;> simp [select_clock, pruneHistories_clock]

theorem dayTaken_clock (w : Work) :
    w.dayTaken.clock =
      { w.clock with daysDue := w.clock.daysDue - 1, dayCount := w.clock.dayCount + 1 } := by
  simp [Work.dayTaken, select_clock, swapDecision_clock]

/-- Events taken to their end, what each makes of the clock repeated. -/
theorem eventsTaken_clock (event : Work → Work) (f : Clock → Clock)
    (h : ∀ w, (event w).clock = f w.clock) (n : Nat) (w : Work) :
    (Work.eventsTaken event n w).clock = f^[n] w.clock := by
  induction n generalizing w with
  | zero => rfl
  | succ n ih => rw [Work.eventsTaken, ih, settle_clock, h, Function.iterate_succ_apply]

theorem minutes_iterate (n : Nat) (c : Clock) :
    (fun c : Clock => { c with minutesDue := c.minutesDue - 1 })^[n] c =
      { c with minutesDue := c.minutesDue - n } := by
  induction n generalizing c with
  | zero => rfl
  | succ n ih => rw [Function.iterate_succ_apply, ih]; simp [Nat.sub_sub, Nat.add_comm]

theorem hours_iterate (n : Nat) (c : Clock) :
    (fun c : Clock => { c with hoursDue := c.hoursDue - 1 })^[n] c =
      { c with hoursDue := c.hoursDue - n } := by
  induction n generalizing c with
  | zero => rfl
  | succ n ih => rw [Function.iterate_succ_apply, ih]; simp [Nat.sub_sub, Nat.add_comm]

theorem days_iterate (n : Nat) (c : Clock) :
    (fun c : Clock => { c with daysDue := c.daysDue - 1, dayCount := c.dayCount + 1 })^[n] c =
      { c with daysDue := c.daysDue - n, dayCount := c.dayCount + BitVec.ofNat 16 n } := by
  induction n generalizing c with
  | zero => simp
  | succ n ih =>
    rw [Function.iterate_succ_apply, ih]
    have h : c.dayCount + 1 + BitVec.ofNat 16 n = c.dayCount + BitVec.ofNat 16 (n + 1) := by
      rw [BitVec.ofNat_add, BitVec.add_assoc, BitVec.add_comm 1]; rfl
    simp only [h, Nat.sub_sub, Nat.add_comm 1 n]

/-- Once an advance is finished no event of it is due, the days are counted, and the rest of the clock
stands. -/
theorem finishAdvance_clock (w : Work) :
    w.finishAdvance.clock =
      { w.clock with
        minutesDue := 0, hoursDue := 0, daysDue := 0
        dayCount := w.clock.dayCount + BitVec.ofNat 16 w.clock.daysDue } := by
  have hour (w : Work) : w.hourTaken.clock = { w.clock with hoursDue := w.clock.hoursDue - 1 } := by
    simp [Work.hourTaken]
  have minutes := eventsTaken_clock Work.minuteTaken
    (fun c => { c with minutesDue := c.minutesDue - 1 }) minuteTaken_clock
  have hours := eventsTaken_clock Work.hourTaken
    (fun c => { c with hoursDue := c.hoursDue - 1 }) hour
  have days := eventsTaken_clock Work.dayTaken
    (fun c => { c with daysDue := c.daysDue - 1, dayCount := c.dayCount + 1 }) dayTaken_clock
  simp only [minutes_iterate, hours_iterate, days_iterate] at minutes hours days
  simp [Work.finishAdvance, minutes, hours, days]

end Sys2Proof.Machine
end

