-- ==== Sys2Proof/Laws/Follows.lean ====
section
/-! SUPPORT. What the notifications of a step do beyond Reacts: Follows v w, for the operations that notifications call, up to settle. Reports and timers do more; they are not notifications. -/

namespace Sys2Proof.Machine

/-- What notifications leave of a pump: the min off timer and the internal lockout causes as they
stand, a min run timer as it stands or idle, STOPPING as STOPPING, and STARTING as STARTING or
STOPPING. -/
structure PumpFollows (x y : Pump) : Prop where
  minOff : y.minOffTimer = x.minOffTimer
  minRun : y.minRunTimer = x.minRunTimer ∨ y.minRunTimer = .idle
  failToStart : y.lockout.failToStart = x.lockout.failToStart
  failToStop : y.lockout.failToStop = x.lockout.failToStop
  outstationTrip : y.lockout.outstationTrip = x.lockout.outstationTrip
  stopping : x.state = .stopping → y.state = .stopping
  starting : x.state = .starting → y.state = .starting ∨ y.state = .stopping

/-- What notifications leave as it stands beyond Reacts: the settle timers, port C's queue up to alerts
at its tail, and outside AUTONOMOUS no pump joins the start queue. -/
structure Follows (v w : Work) : Prop where
  mode : w.authority.mode = v.authority.mode
  settle : ∀ z : ZoneId, w.zones[z].settleTimer = v.zones[z].settleTimer
  pumps : ∀ p : PumpId, PumpFollows v.pumps[p] w.pumps[p]
  alerts : ∃ l, w.portC.own = v.portC.own ++ l ∧ ∀ t ∈ l, t.kind = .alert
  joins : v.authority.mode ≠ .autonomous → ∀ e ∈ w.queue, ∃ e' ∈ v.queue, e'.pump = e.pump

theorem PumpFollows.refl (x : Pump) : PumpFollows x x :=
  ⟨rfl, .inl rfl, rfl, rfl, rfl, id, .inl⟩

theorem PumpFollows.trans {x y z : Pump} (a : PumpFollows x y) (b : PumpFollows y z) :
    PumpFollows x z where
  minOff := b.minOff.trans a.minOff
  minRun := by
    rcases b.minRun with h | h
    · rw [h]; exact a.minRun
    · exact .inr h
  failToStart := b.failToStart.trans a.failToStart
  failToStop := b.failToStop.trans a.failToStop
  outstationTrip := b.outstationTrip.trans a.outstationTrip
  stopping h := b.stopping (a.stopping h)
  starting h := by
    rcases a.starting h with h | h
    · exact b.starting h
    · exact .inr (b.stopping h)

theorem Follows.refl (w : Work) : Follows w w :=
  ⟨rfl, fun _ => rfl, fun _ => .refl _, ⟨[], by simp⟩, fun _ e h => ⟨e, h, rfl⟩⟩

theorem Follows.trans {u v w : Work} (a : Follows u v) (b : Follows v w) : Follows u w where
  mode := b.mode.trans a.mode
  settle z := (b.settle z).trans (a.settle z)
  pumps p := (a.pumps p).trans (b.pumps p)
  alerts := by
    obtain ⟨l, hl, al⟩ := a.alerts
    obtain ⟨m, hm, am⟩ := b.alerts
    refine ⟨l ++ m, by rw [hm, hl, List.append_assoc], fun t ht => ?_⟩
    rcases List.mem_append.1 ht with h | h
    · exact al t h
    · exact am t h
  joins h e he := by
    obtain ⟨e', m, q⟩ := b.joins (by rw [a.mode]; exact h) e he
    obtain ⟨e'', n, q'⟩ := a.joins h e' m
    exact ⟨e'', n, q'.trans q⟩

theorem follows_foldl {α : Type} (f : Work → α → Work) (h : ∀ w a, Follows w (f w a))
    (w : Work) (l : List α) : Follows w (l.foldl f w) := by
  induction l generalizing w with
  | nil => exact .refl w
  | cons a l ih => exact (h w a).trans (ih (f w a))

/-! ### Basic updates -/

/-- An update that leaves all that Follows looks at. -/
theorem follows_of_same {v w : Work} (a : w.authority = v.authority) (z : w.zones = v.zones)
    (p : w.pumps = v.pumps) (c : w.portC = v.portC) (q : w.queue = v.queue) : Follows v w :=
  ⟨by rw [a], fun _ => by rw [z], fun _ => by rw [p]; exact .refl _, ⟨[], by simp [c]⟩,
    fun _ e h => ⟨e, by rw [← q]; exact h, rfl⟩⟩

theorem follows_push (w : Work) (r : Reaction) : Follows w (w.push r) :=
  follows_of_same rfl rfl rfl rfl rfl

theorem follows_pushIf (w : Work) (c : Bool) (r : Reaction) : Follows w (w.pushIf c r) := by
  cases c
  · exact .refl w
  · exact follows_push w r

theorem Follows.push {u w : Work} (h : Follows u w) (r : Reaction) : Follows u (w.push r) :=
  h.trans (follows_push w r)

theorem Follows.pushIf {u w : Work} (h : Follows u w) (c : Bool) (r : Reaction) :
    Follows u (w.pushIf c r) :=
  h.trans (follows_pushIf w c r)

theorem follows_setZone (w : Work) (z : ZoneId) (r : Zone)
    (k : r.settleTimer = w.zones[z].settleTimer) : Follows w (w.setZone z r) where
  mode := rfl
  settle y := by
    by_cases h : z = y
    · subst h; rw [setZone_zones_self, k]
    · rw [setZone_zones_of_ne w r h]
  pumps _ := .refl _
  alerts := ⟨[], by simp⟩
  joins _ e h := ⟨e, h, rfl⟩

theorem follows_setPump (w : Work) (p : PumpId) (r : Pump) (k : PumpFollows w.pumps[p] r) :
    Follows w (w.setPump p r) where
  mode := rfl
  settle _ := rfl
  pumps q := by
    by_cases h : p = q
    · subst h; rw [setPump_pumps_self]; exact k
    · rw [setPump_pumps_of_ne w r h]; exact .refl _
  alerts := ⟨[], by simp⟩
  joins _ e h := ⟨e, h, rfl⟩

theorem follows_setInterlock (w : Work) (e : EntryId) (r : Interlock) :
    Follows w (w.setInterlock e r) :=
  follows_of_same rfl rfl rfl rfl rfl

/-- A queue whose entries are of pumps that had one. -/
theorem follows_setQueue (w : Work) (q : List QueueEntry)
    (h : ∀ e ∈ q, ∃ e' ∈ w.queue, e'.pump = e.pump) : Follows w (w.setQueue q) :=
  ⟨rfl, fun _ => rfl, fun _ => .refl _, ⟨[], by simp⟩, fun _ => h⟩

theorem follows_events (w : Work) (e : Events) : Follows w (w.setEvents e) :=
  follows_of_same rfl rfl rfl rfl rfl

theorem follows_placeOwn (w : Work) (p : Port) (t : OwnTelegram) (h : p = .c → t.kind = .alert) :
    Follows w (w.placeOwn p t) where
  mode := by cases p <;> rfl
  settle z := by cases p <;> rfl
  pumps q := by cases p <;> exact .refl _
  alerts := by
    cases p
    · exact ⟨[t], rfl, by simpa using h rfl⟩
    · exact ⟨[], by simp [Work.placeOwn, Work.setPort]⟩
    · exact ⟨[], by simp [Work.placeOwn, Work.setPort]⟩
  joins _ e m := ⟨e, by cases p <;> exact m, rfl⟩

/-! ### Flags and alerts -/

theorem follows_offerAlert (w : Work) : Follows w w.offerAlert := by
  unfold Work.offerAlert
  split
  · split
    · exact follows_events w _
    · split
      · exact (follows_placeOwn w .c _ fun _ => rfl).trans (follows_events _ _)
      · exact .refl w
  · exact .refl w

theorem follows_latch (w : Work) (f : Flag) : Follows w (w.latch f) := by
  unfold Work.latch
  split
  · exact .refl w
  · refine Follows.trans (follows_events w { w.events with latched := w.events.latched ++ [⟨f, w.now⟩] }) ?_
    dsimp only
    split
    · unfold Work.trigger
      dsimp only
      split
      · exact (follows_events _ _).trans (follows_of_same rfl rfl rfl rfl rfl)
      · exact (follows_events _ _).trans (follows_offerAlert _)
    · exact .refl _

/-! ### The sequencer -/

theorem follows_commitPump (w : Work) (p : PumpId) (new : Pump)
    (k : PumpFollows w.pumps[p] new) : Follows w (w.commitPump p new) := by
  unfold Work.commitPump
  dsimp only
  refine Follows.trans ?_ (follows_pushIf _ _ _)
  refine Follows.trans ?_ (follows_pushIf _ _ _)
  refine Follows.trans ?_ (follows_pushIf _ _ _)
  refine Follows.trans ?_ (follows_pushIf _ _ _)
  refine (follows_setPump w p new k).trans ?_
  split
  · exact follows_setQueue _ _ fun e he => ⟨e, (List.mem_filter.1 he).1, rfl⟩
  · exact .refl _

theorem follows_issueOne (w : Work) (p : PumpId) (c : PumpCommand) :
    Follows w (w.issueOne p c) := by
  unfold Work.issueOne
  split
  · rename_i port a h
    have hp := placement_ne_c _ _ _ _ h
    dsimp only
    refine Follows.trans (Follows.trans (follows_placeOwn w port _ fun e => absurd e hp.1)
      (follows_setPump _ p _ ?_)) (follows_of_same rfl rfl rfl rfl rfl)
    exact ⟨rfl, .inl rfl, rfl, rfl, rfl, id, .inl⟩
  · exact follows_setPump w p _ ⟨rfl, .inl rfl, rfl, rfl, rfl, id, .inl⟩

theorem follows_tryPending (w : Work) (port : Port) (p : PumpId) :
    Follows w (w.tryPending port p) := by
  unfold Work.tryPending
  split
  · split
    · exact follows_issueOne _ _ _
    · exact .refl _
  · exact .refl _

theorem follows_placePending (w : Work) (port : Port) : Follows w (w.placePending port) := by
  unfold Work.placePending
  exact follows_foldl _ (fun w p => follows_tryPending w port p) w _

theorem follows_issue (w : Work) (p : PumpId) (c : PumpCommand) : Follows w (w.issue p c) := by
  unfold Work.issue
  dsimp only
  refine (follows_issueOne w p c).trans ?_
  split
  · exact follows_placePending _ _
  · exact .refl _

/-- A change of a pump and then a telegram. -/
theorem follows_commit_issue (w : Work) (p : PumpId) (x : Pump) (c : PumpCommand)
    (k : PumpFollows w.pumps[p] x) : Follows w ((w.commitPump p x).issue p c) :=
  (follows_commitPump w p x k).trans (follows_issue _ _ _)

/-- The stop of a pump that is not STOPPING already, and not STARTING unless it is for a trip. -/
theorem follows_beginStop (w : Work) (p : PumpId) : Follows w (w.beginStop p) := by
  unfold Work.beginStop
  dsimp only
  split
  · exact follows_commit_issue w p _ _ ⟨rfl, .inl rfl, rfl, rfl, rfl, fun _ => rfl, fun _ => .inr rfl⟩
  · exact follows_commit_issue w p _ _ ⟨rfl, .inl rfl, rfl, rfl, rfl, fun _ => rfl, fun _ => .inr rfl⟩

theorem follows_testStops (w : Work) (z : ZoneId) : Follows w (w.testStops z) := by
  unfold Work.testStops
  split
  · exact .refl w
  · exact follows_beginStop _ _

theorem follows_stopTaken (w : Work) (p : PumpId) : Follows w (w.stopTaken p).2 := by
  unfold Work.stopTaken
  dsimp only
  repeat' split
  all_goals first
    | exact .refl w
    | exact follows_commitPump w p _ ⟨rfl, .inl rfl, rfl, rfl, rfl, id, .inl⟩
    | exact follows_beginStop w p
    | exact follows_issue w p _

theorem follows_startAnswered (w : Work) (p : PumpId) : Follows w (w.startAnswered p).2 := by
  unfold Work.startAnswered
  dsimp only
  repeat' split
  all_goals first
    | exact .refl w
    | exact follows_commitPump w p _ ⟨rfl, .inl rfl, rfl, rfl, rfl, id, .inl⟩

theorem follows_grant (w : Work) (p : PumpId) (h : w.pumps[p].state = .queued) :
    Follows w (w.grant p) := by
  unfold Work.grant
  dsimp only
  refine follows_commit_issue w p _ _ ⟨rfl, .inl rfl, rfl, rfl, rfl, fun e => ?_, fun e => ?_⟩
  · rw [h] at e; cases e
  · rw [h] at e; cases e

/-! ### Lockout and inhibit sets -/

theorem follows_tripStop (w : Work) (p : PumpId) (x : Pump)
    (a : x.minOffTimer = w.pumps[p].minOffTimer) (b : x.minRunTimer = w.pumps[p].minRunTimer)
    (c : x.lockout.failToStart = w.pumps[p].lockout.failToStart)
    (d : x.lockout.failToStop = w.pumps[p].lockout.failToStop)
    (e : x.lockout.outstationTrip = w.pumps[p].lockout.outstationTrip) :
    Follows w (w.tripStop p x) :=
  follows_commit_issue w p _ _ ⟨a, .inl b, c, d, e, fun _ => rfl, fun _ => .inr rfl⟩

/-- An entry's member leaves the internal causes as they stand. -/
theorem add_entry_internals (l : Lockout) (e : EntryId) (t : Tag) :
    (l.add (.entry e) t).failToStart = l.failToStart ∧
      (l.add (.entry e) t).failToStop = l.failToStop ∧
        (l.add (.entry e) t).outstationTrip = l.outstationTrip := by
  unfold Lockout.add
  dsimp only
  split <;> exact ⟨rfl, rfl, rfl⟩

theorem follows_addLockout (w : Work) (p : PumpId) (e : EntryId) (t : Tag) :
    Follows w (w.addLockout p (.entry e) t) := by
  obtain ⟨h1, h2, h3⟩ := add_entry_internals w.pumps[p].lockout e t
  unfold Work.addLockout
  dsimp only
  split
  · exact .refl w
  · split
    · rename_i s; exact follows_commitPump w p _ ⟨rfl, .inl rfl, h1, h2, h3, fun h => absurd (s.symm.trans h) (by decide),
        fun h => absurd (s.symm.trans h) (by decide)⟩
    · exact follows_tripStop w p _ rfl rfl h1 h2 h3
    · exact follows_tripStop w p _ rfl rfl h1 h2 h3
    · split
      · exact follows_tripStop w p _ rfl rfl h1 h2 h3
      · exact follows_setPump w p _ ⟨rfl, .inl rfl, h1, h2, h3, id, .inl⟩
    · exact follows_setPump w p _ ⟨rfl, .inl rfl, h1, h2, h3, id, .inl⟩
    · rename_i s; exact follows_commitPump w p _ ⟨rfl, .inl rfl, h1, h2, h3, fun h => absurd (s.symm.trans h) (by decide),
        fun h => absurd (s.symm.trans h) (by decide)⟩
    · rename_i s; exact follows_commitPump w p _ ⟨rfl, .inl rfl, h1, h2, h3, fun h => absurd (s.symm.trans h) (by decide),
        fun h => absurd (s.symm.trans h) (by decide)⟩
    · rename_i s; exact follows_commitPump w p _ ⟨rfl, .inl rfl, h1, h2, h3, fun h => absurd (s.symm.trans h) (by decide),
        fun h => absurd (s.symm.trans h) (by decide)⟩

theorem follows_removeLockout (w : Work) (p : PumpId) (e : EntryId) :
    Follows w (w.removeLockout p (.entry e)) := by
  unfold Work.removeLockout
  dsimp only
  split
  · split
    · rename_i c
      simp only [Bool.and_eq_true, beq_iff_eq] at c
      have s := c.2
      refine follows_commitPump w p _ ⟨?_, ?_, ?_, ?_, ?_, fun h => ?_, fun h => ?_⟩
      · unfold Pump.released; repeat' split
        all_goals rfl
      · unfold Pump.released; repeat' split
        · exact .inr rfl
        · exact .inl rfl
        · exact .inl rfl
      · unfold Pump.released; repeat' split
        all_goals rfl
      · unfold Pump.released; repeat' split
        all_goals rfl
      · unfold Pump.released; repeat' split
        all_goals rfl
      · rw [s] at h; cases h
      · rw [s] at h; cases h
    · exact follows_setPump w p _ ⟨rfl, .inl rfl, rfl, rfl, rfl, id, .inl⟩
  · exact .refl w

theorem follows_addInhibit (w : Work) (p : PumpId) (e : EntryId) : Follows w (w.addInhibit p e) :=
  follows_setPump w p _ ⟨rfl, .inl rfl, rfl, rfl, rfl, id, .inl⟩

theorem follows_removeInhibit (w : Work) (p : PumpId) (e : EntryId) :
    Follows w (w.removeInhibit p e) := by
  unfold Work.removeInhibit
  dsimp only
  split
  · refine Follows.pushIf ?_ _ _
    exact follows_setPump w p _ ⟨rfl, .inl rfl, rfl, rfl, rfl, id, .inl⟩
  · exact .refl w

theorem follows_releaseEntry (w : Work) (e : EntryId) (p : PumpId) :
    Follows w (w.releaseEntry e p) := by
  unfold Work.releaseEntry
  dsimp only
  split
  · exact (follows_removeLockout w p _).trans (follows_removeInhibit _ _ _)
  · exact follows_removeInhibit _ _ _

theorem follows_pausePump (w : Work) (online : Bool) (p : PumpId) :
    Follows w (w.pausePump online p) := by
  unfold Work.pausePump
  dsimp only
  split
  · exact follows_setPump w p _ ⟨rfl, .inl rfl, rfl, rfl, rfl, id, .inl⟩
  · exact follows_setPump w p _ ⟨rfl, .inl rfl, rfl, rfl, rfl, id, .inl⟩

theorem follows_pauseHouse (w : Work) (h : HouseId) (online : Bool) :
    Follows w (w.pauseHouse h online) := by
  have all : Follows w ((pumpsOf h).foldl (fun w p => w.pausePump online p) w) :=
    follows_foldl _ (fun v p => follows_pausePump v online p) w _
  unfold Work.pauseHouse
  dsimp only
  split
  · refine all.trans ?_
    unfold Work.placeHouse
    split
    · exact follows_placePending _ _
    · exact .refl _
  · exact all

/-! ### The arbiter -/

theorem follows_dequeue (w : Work) (p : PumpId) (h : w.pumps[p].state = .queued) :
    Follows w (w.dequeue p) :=
  follows_commitPump w p _
    ⟨rfl, .inl rfl, rfl, rfl, rfl, fun e => absurd (h.symm.trans e) (by decide),
      fun e => absurd (h.symm.trans e) (by decide)⟩

theorem follows_stopRequest (w : Work) (p : PumpId) : Follows w (w.stopRequest p).2 := by
  unfold Work.stopRequest
  split
  · rename_i h; exact follows_dequeue w p h
  · exact follows_stopTaken w p

theorem follows_countBypass (w : Work) (l : List PumpId) (p : PumpId) :
    Follows w (w.countBypass l p) := by
  refine follows_setQueue w _ fun e he => ?_
  obtain ⟨x, hx, rfl⟩ := List.mem_map.1 he
  refine ⟨x, hx, ?_⟩
  split <;> rfl

theorem follows_testEntry (w : Work) (failed : List PumpId) (p : PumpId) :
    Follows w (w.testEntry failed p).1 := by
  unfold Work.testEntry
  split
  · rename_i h
    split
    · refine (follows_grant w p ?_).trans (follows_countBypass _ _ _)
      simp only [State.ready, Bool.and_eq_true, beq_iff_eq] at h
      exact h.1.1.1.1.1.1.1
    · exact .refl w
  · exact .refl w

theorem follows_testEntries (w : Work) (failed : List PumpId) (l : List PumpId) :
    Follows w (w.testEntries failed l) := by
  induction l generalizing w failed with
  | nil => exact .refl w
  | cons p l ih =>
    unfold Work.testEntries
    exact (follows_testEntry w failed p).trans (ih _ _)

theorem insertEntry_mem (e x : QueueEntry) (l : List QueueEntry) (h : x ∈ insertEntry e l) :
    x = e ∨ x ∈ l := by
  induction l with
  | nil => simpa [insertEntry] using h
  | cons y l ih =>
    unfold insertEntry at h
    split at h
    · rcases List.mem_cons.1 h with rfl | h
      · exact .inr (List.mem_cons_self ..)
      · rcases ih h with h | h
        · exact .inl h
        · exact .inr (List.mem_cons_of_mem _ h)
    · rcases List.mem_cons.1 h with rfl | h
      · exact .inl rfl
      · exact .inr h

/-- In AUTONOMOUS a start request follows too: it may join the queue. -/
theorem follows_startRequest (w : Work) (p : PumpId) (o : Origin) (n : Nat)
    (auto : w.authority.mode = .autonomous) : Follows w (w.startRequest p o n).2 := by
  unfold Work.startRequest
  split
  · rename_i h
    split
    · unfold Work.enqueue
      dsimp only
      generalize insertEntry _ w.queue = q
      refine Follows.push ?_ _
      have a : Follows w (w.setQueue q) :=
        ⟨rfl, fun _ => rfl, fun _ => .refl _, ⟨[], by simp⟩, fun n => absurd auto n⟩
      refine a.trans (follows_commitPump (w.setQueue q) p _ ?_)
      refine ⟨rfl, .inl rfl, rfl, rfl, rfl, fun e => ?_, fun e => ?_⟩
      · have e' : w.pumps[p].state = .stopping := e
        rw [h] at e'; cases e'
      · have e' : w.pumps[p].state = .starting := e
        rw [h] at e'; cases e'
    · dsimp only
      split
      · exact follows_latch w _
      · exact .refl w
  · exact .refl w
  · exact follows_startAnswered w p

/-! ### The demand unit -/

theorem follows_startMissing (w : Work) (z : ZoneId) (n : Nat)
    (auto : w.authority.mode = .autonomous) : Follows w (w.startMissing z n) := by
  induction n generalizing w with
  | zero => exact .refl w
  | succ n ih =>
    unfold Work.startMissing
    split
    · exact .refl w
    · rename_i p _
      have h := follows_startRequest w p .demand w.zones[z].demandPriority auto
      split
      · rename_i e; rw [e] at h
        exact h.trans (ih _ (h.mode.trans auto))
      · rename_i e; rw [e] at h; exact h

theorem follows_shedSurplus (w : Work) (z : ZoneId) (n : Nat) :
    Follows w (w.shedSurplus z n) := by
  induction n generalizing w with
  | zero => exact .refl w
  | succ n ih =>
    unfold Work.shedSurplus
    split
    · exact (follows_stopRequest w _).trans (ih _)
    · split
      · exact (follows_stopRequest w _).trans (ih _)
      · exact .refl w

theorem follows_reconcile (w : Work) (z : ZoneId) (auto : w.authority.mode = .autonomous) :
    Follows w (w.reconcile z) := by
  unfold Work.reconcile
  dsimp only
  split
  · exact follows_startMissing w z _ auto
  · exact follows_shedSurplus w z _

theorem follows_boundCall (w : Work) (z : ZoneId) : Follows w (w.boundCall z) :=
  follows_setZone w z _ rfl

theorem follows_stepCall (w : Work) (z : ZoneId) (a b : Nat) : Follows w (w.stepCall z a b) := by
  unfold Work.stepCall
  dsimp only
  repeat' split
  all_goals first
    | exact .refl w
    | exact follows_setZone w z _ rfl

theorem follows_evaluateZone (w : Work) (z : ZoneId) : Follows w (w.evaluateZone z) := by
  unfold Work.evaluateZone
  dsimp only
  split
  · exact follows_latch w _
  · split
    · rename_i auto
      have h := (follows_boundCall w z).trans (follows_stepCall (w.boundCall z) z
        (shiftLevel w.zones[z].startLevel w.offset) (shiftLevel w.zones[z].stopLevel w.offset))
      exact h.trans (follows_reconcile _ _ (h.mode.trans auto))
    · exact .refl w

theorem follows_evaluateReading (w : Work) (z : ZoneId) (l : Nat) (q : Quality) (t : Count) :
    Follows w (w.evaluateReading z l q t) := by
  unfold Work.evaluateReading
  dsimp only
  refine Follows.trans ?_ (follows_evaluateZone _ _)
  exact follows_setZone w z _ rfl

theorem follows_pumpNotified (w : Work) (z : ZoneId) : Follows w (w.pumpNotified z) := by
  unfold Work.pumpNotified
  split
  · rename_i auto
    split
    · exact (follows_boundCall w z).trans (follows_reconcile _ _ auto)
    · exact follows_reconcile w z auto
  · exact .refl w

/-! ### The interlock unit -/

theorem follows_addMember (w : Work) (e : EntryId) (a : Action) (p : PumpId) :
    Follows w (w.addMember e a p) := by
  cases a
  · exact follows_addLockout w p _ _
  · exact follows_addLockout w p _ _
  · exact follows_addInhibit w p e

theorem follows_startCause (w : Work) (e : EntryId) : Follows w (w.startCause e) := by
  unfold Work.startCause
  split
  · refine Follows.trans (follows_setInterlock w e { w.interlocks[e] with present := true }) ?_
    unfold Work.applyMembers
    exact follows_foldl _ (fun w p => follows_addMember w e _ p) _ _
  · exact .refl w

theorem follows_releaseAll (w : Work) (e : EntryId) : Follows w (w.releaseAll e) := by
  unfold Work.releaseAll
  exact follows_foldl _ (fun w p => follows_releaseEntry w e p) w _

theorem follows_judge (w : Work) (e : EntryId) (v : Cause → Bool → Option Bool) :
    Follows w (w.judge e v) := by
  unfold Work.judge
  dsimp only
  repeat' split
  all_goals first
    | exact .refl w
    | exact follows_startCause w e
    | (refine Follows.trans (follows_setInterlock w e { w.interlocks[e] with present := false }) ?_
       exact follows_releaseAll _ e)

theorem follows_judgeAll (w : Work) (v : Cause → Bool → Option Bool) :
    Follows w (w.judgeAll v) := by
  unfold Work.judgeAll
  exact follows_foldl _ (fun w e => follows_judge w e v) w _

/-! ### A whole step -/

theorem follows_react (w : Work) (r : Reaction) : Follows w (w.react r) := by
  cases r
  · exact follows_evaluateReading w _ _ _ _
  · exact follows_judgeAll w _
  · exact follows_judgeAll w _
  · exact follows_pauseHouse w _ _
  · exact follows_pumpNotified w _
  · exact follows_testEntries w _ _
  · exact follows_testStops w _

theorem follows_next (w v : Work) (r : Reaction) (h : w.next = some (r, v)) : Follows w v := by
  unfold Work.next at h
  split at h
  · cases h
  · simp only [Option.map_eq_some_iff, Prod.mk.injEq] at h
    obtain ⟨x, -, -, rfl⟩ := h
    exact follows_of_same rfl rfl rfl rfl rfl
  · simp only [Option.map_eq_some_iff, Prod.mk.injEq] at h
    obtain ⟨x, -, -, rfl⟩ := h
    exact follows_of_same rfl rfl rfl rfl rfl

theorem follows_drain (n : Nat) (w : Work) : Follows w (Work.drain n w) := by
  induction n generalizing w with
  | zero => exact .refl w
  | succ n ih =>
    unfold Work.drain
    split
    · exact .refl w
    · rename_i r v h
      exact ((follows_next w v r h).trans (follows_react v r)).trans (ih _)

/-- What follows from an operation, beyond settle_reacts. -/
theorem settle_follows (w : Work) : Follows w w.settle := follows_drain _ _

end Sys2Proof.Machine
end

