-- ==== Sys2Proof/Laws/Manage.lean ====
section
/-! SUPPORT. How a request is taken and answered, said once (manage_law): what its operation left stands, up to notifications, and its reply is where R141 and R162 place it. -/

namespace Sys2Proof.Machine

/-- What a request leaves, `u` being the state its operation gave. -/
structure Managed (u : State) (t : State) : Prop where
  settled : t.settled = u.settled
  latched : ∃ l, t.events.latched = u.events.latched ++ l
  grows : ∀ p, p ≠ .c → OwnGrows (u.port p) (t.port p)
  settle : ∀ z : ZoneId, t.zones[z].settleTimer = u.zones[z].settleTimer
  pumps : ∀ p : PumpId, PumpFollows u.pumps[p] t.pumps[p]
  history : ∀ p : PumpId, ∃ l, t.pumps[p].history = u.pumps[p].history ++ l
  joins : u.authority.mode ≠ .autonomous → ∀ e ∈ t.queue, ∃ e' ∈ u.queue, e'.pump = e.pump

theorem settled_of_kept {s t : State} (h : t.kept = s.kept) : t.settled = s.settled := by
  unfold State.settled; rw [h]

/-- What a run of an operation leaves, `u` being the state the operation gave. -/
theorem run_managed (f : Work → Work) (s : State) : Managed (f (Work.of s)).toState (run f s) where
  settled := settled_of_kept (settle_reacts _).kept
  latched := (settle_reacts _).latched
  grows p _ := (settle_reacts _).grows p
  settle := (settle_follows _).settle
  pumps := (settle_follows _).pumps
  history := (settle_reacts _).history
  joins := (settle_follows _).joins

theorem portRecord_eq_of_kept {r r' : PortRecord} (k : r'.kept = r.kept) (o : r'.own = r.own) :
    r' = r := by
  cases r; cases r'
  simp_all [PortRecord.kept]

theorem portRecord_own_of_kept {r r' : PortRecord} (k : r'.kept = r.kept) :
    r' = { r with own := r'.own } := by
  cases r; cases r'
  simp_all [PortRecord.kept]

/-- Port C after notifications: alerts may have joined, and only if it takes a telegram. -/
theorem portC_follows {v w : Work} (a : Reacts v w) (b : Follows v w) :
    ∃ l, w.portC = { v.portC with own := v.portC.own ++ l } ∧ (∀ x ∈ l, x.kind = .alert) ∧
      (v.portC.takesOwn = false → l = []) := by
  obtain ⟨l, hl, al⟩ := b.alerts
  refine ⟨l, ?_, al, fun n => ?_⟩
  · rw [← hl]; exact portRecord_own_of_kept (kept_port a.kept .c)
  · obtain ⟨m, hm, um⟩ := (a.grows .c).tail
    have e : v.portC.own ++ l = v.portC.own ++ m := by rw [← hl]; exact hm
    rw [List.append_cancel_left e, um n]

theorem reacts_settle_owed (w : Work) (owed : Bool) (h : w.replying = false) :
    Reacts w (if owed then w.offerAlert else w).settle := by
  refine Reacts.trans ?_ (settle_reacts _)
  split
  · exact reacts_offerAlert w h
  · exact Reacts.refl w

theorem follows_settle_owed (w : Work) (owed : Bool) :
    Follows w (if owed then w.offerAlert else w).settle := by
  refine Follows.trans ?_ (settle_follows _)
  split
  · exact follows_offerAlert w
  · exact Follows.refl w

/-- A request as it runs: `u` is what its operation gave, `v` what the step then settles from. -/
theorem manage_run (s : State) (kind : Byte) (f : Work → Answer × Work) (a : Answer) (u : Work)
    (h : f ((Work.of s).setReplying true) = (a, u)) (r : u.replying = true)
    (p : u.switch.partAddress = s.switch.partAddress)
    (d : a.deferred = none ∨ u.portC.takesOwn = true) :
    run (fun w => w.manage kind f) s =
      (if u.settle.offerOwed then
        (((u.settle.setPort .c (u.portC.withReply (s.replyTo kind a))).setReplying
          false).setOwed false).offerAlert
       else ((u.settle.setPort .c (u.portC.withReply (s.replyTo kind a))).setReplying
          false).setOwed false).settle.toState := by
  have A := settle_reacts u
  have hc : u.settle.portC = u.portC := A.portC r
  have hp : u.settle.switch.partAddress = s.switch.partAddress := by
    rw [kept_switch A.kept]; exact p
  have hv : u.settle.reply s.switch.controlAddress kind a =
      u.settle.setPort .c (u.portC.withReply (s.replyTo kind a)) := by
    unfold Work.reply PortRecord.withReply State.replyTo
    rw [hc, hp]
    split
    · unfold Work.placeOwn
      rw [show u.settle.port .c = u.portC from hc]
    · rename_i full
      have dn : a.deferred = none := d.resolve_right full
      unfold Work.countError
      rw [dn, show u.settle.port .c = u.portC from hc]
      rfl
  unfold run Work.manage
  dsimp only
  rw [h]
  dsimp only
  rw [show (Work.of s).switch.controlAddress = s.switch.controlAddress from rfl, hv]
  rfl

/-- A request whose answer holds no effect back, or is placed. -/
theorem manage_law (s : State) (kind : Byte) (f : Work → Answer × Work) (a : Answer) (u : Work)
    (h : f ((Work.of s).setReplying true) = (a, u)) (r : u.replying = true)
    (p : u.switch.partAddress = s.switch.partAddress)
    (d : a.deferred = none ∨ u.portC.takesOwn = true) :
    AnsweredOn u.portC s (run (fun w => w.manage kind f) s) kind a ∧
      Managed u.toState (run (fun w => w.manage kind f) s) := by
  have A := settle_reacts u
  have B := settle_follows u
  let v : Work := ((u.settle.setPort .c (u.portC.withReply (s.replyTo kind a))).setReplying
    false).setOwed false
  let owed := u.settle.offerOwed
  have hr : run (fun w => w.manage kind f) s =
      (if owed then v.offerAlert else v).settle.toState := manage_run s kind f a u h r p d
  have A' := reacts_settle_owed v owed rfl
  have B' := follows_settle_owed v owed
  constructor
  · obtain ⟨l, hl, al, nl⟩ := portC_follows A' B'
    rw [hr]
    exact ⟨l, al, nl, hl⟩
  · rw [hr]
    have key : v.toState.settled = u.toState.settled := by
      have : u.settle.toState.settled = u.toState.settled := settled_of_kept A.kept
      rw [← this]
      rfl
    exact
      { settled := (settled_of_kept A'.kept).trans key
        latched := by
          obtain ⟨l, hl⟩ := A.latched
          obtain ⟨m, hm⟩ := A'.latched
          refine ⟨l ++ m, ?_⟩
          rw [hm, ← List.append_assoc, ← hl]
          rfl
        grows := by
          intro q hq
          have g := A.grows q
          have g' := A'.grows q
          have same : v.port q = u.settle.port q := by
            cases q
            · exact absurd rfl hq
            · rfl
            · rfl
          rw [same] at g'
          have ks : (u.settle.port q).state = (u.port q).state := kept_port_state A.kept q
          obtain ⟨⟨l, hl, ul⟩, rl⟩ := g
          obtain ⟨⟨m, hm, um⟩, rm⟩ := g'
          refine ⟨⟨l ++ m, by rw [hm, hl, List.append_assoc], fun n => ?_⟩, fun n => rm (rl n)⟩
          have e := ul n
          subst e
          have full : (u.settle.port q).takesOwn = false := by
            rw [← n, PortRecord.takesOwn, PortRecord.takesOwn, ks, hl, List.append_nil]
          rw [um full, List.nil_append]
        settle := fun z => (B'.settle z).trans (B.settle z)
        pumps := fun q => (B.pumps q).trans (B'.pumps q)
        history := by
          intro q
          obtain ⟨l, hl⟩ := A.history q
          obtain ⟨m, hm⟩ := A'.history q
          exact ⟨l ++ m, by rw [hm, ← List.append_assoc, ← hl]; rfl⟩
        joins := by
          intro n e he
          have hm : v.authority.mode ≠ .autonomous := by
            have : v.authority.mode = u.authority.mode := B.mode
            rw [this]; exact n
          obtain ⟨e', m, q⟩ := B'.joins hm e he
          obtain ⟨e'', m', q'⟩ := B.joins n e' m
          exact ⟨e'', m', q'.trans q⟩ }

end Sys2Proof.Machine
end

