-- ==== Sys2Proof/Laws/Calm.lean ====
section
/-! SUPPORT. The notifications that no report and no reachability change brings: grant evaluations, tests of stops and reconciliations. Calm v w says what taking them does; they call for none but each other. -/

namespace Sys2Proof.Machine

/-- A notification that the sequencer and the arbiter send of their own changes. -/
def Reaction.calm : Reaction → Bool
  | .evaluate => true
  | .reconcile _ => true
  | .stopTest _ => true
  | _ => false

/-- Every notification waiting is calm. -/
def AllCalm (l : List Reaction) : Prop := ∀ r ∈ l, r.calm = true

/-- What calm notifications may do to a pump: its sets, its min run and min off timers and its report
stand; outside OFF, QUEUED and RUNNING its state stands; a RUNNING pump can only begin its stop. -/
structure PumpCalm (x y : Pump) : Prop where
  lockout : y.lockout = x.lockout
  inhibit : y.inhibit = x.inhibit
  minRun : y.minRunTimer = x.minRunTimer
  minOff : y.minOffTimer = x.minOffTimer
  fixed : x.state ≠ .off → x.state ≠ .queued → x.state ≠ .running → y.state = x.state
  running : x.state = .running → y.state = .running ∨ y.state = .stopping

/-- What they may do to it outside AUTONOMOUS: nothing, but for a grant of a QUEUED pump and the stop
of a RUNNING pump with a stop pending; telegrams apart. -/
structure PumpStill (now : Count) (x y : Pump) : Prop where
  change : (y.state = x.state ∧ y.history = x.history ∧ y.stopPending = x.stopPending) ∨
    (x.state = .queued ∧ y.state = .starting ∧ y.history = x.history ++ [now]) ∨
    (x.state = .running ∧ x.stopPending = true ∧ y.state = .stopping)

/-- What calm notifications do. -/
structure Calm (v w : Work) : Prop where
  mode : w.authority.mode = v.authority.mode
  mono : w.clock = v.clock
  interlocks : w.interlocks = v.interlocks
  zones : ∀ z : ZoneId, w.zones[z] = { v.zones[z] with call := w.zones[z].call }
  agenda : AllCalm v.agenda → AllCalm w.agenda
  pumps : ∀ p : PumpId, PumpCalm v.pumps[p] w.pumps[p]
  stillZones : v.authority.mode ≠ .autonomous → w.zones = v.zones
  stillPumps : v.authority.mode ≠ .autonomous →
    ∀ p : PumpId, PumpStill v.now v.pumps[p] w.pumps[p]
  stillQueue : v.authority.mode ≠ .autonomous → ∀ e ∈ v.queue,
    w.pumps[e.pump].state = .queued → ∃ b, { e with bypass := b } ∈ w.queue

theorem PumpCalm.refl (x : Pump) : PumpCalm x x := ⟨rfl, rfl, rfl, rfl, fun _ _ _ => rfl, .inl⟩

theorem PumpCalm.trans {x y z : Pump} (a : PumpCalm x y) (b : PumpCalm y z) : PumpCalm x z where
  lockout := b.lockout.trans a.lockout
  inhibit := b.inhibit.trans a.inhibit
  minRun := b.minRun.trans a.minRun
  minOff := b.minOff.trans a.minOff
  fixed h1 h2 h3 := by
    have e := a.fixed h1 h2 h3
    rw [b.fixed (by rwa [e]) (by rwa [e]) (by rwa [e]), e]
  running h := by
    rcases a.running h with e | e
    · exact b.running e
    · right
      rw [b.fixed (by rw [e]; decide) (by rw [e]; decide) (by rw [e]; decide), e]

theorem PumpStill.refl (n : Count) (x : Pump) : PumpStill n x x := ⟨.inl ⟨rfl, rfl, rfl⟩⟩

theorem PumpStill.trans {n : Count} {x y z : Pump} (a : PumpStill n x y) (b : PumpStill n y z) :
    PumpStill n x z := by
  obtain ⟨⟨h1, h2, h3⟩ | ⟨h1, h2, h3⟩ | ⟨h1, h2, h3⟩⟩ := a
  · obtain ⟨⟨k1, k2, k3⟩ | ⟨k1, k2, k3⟩ | ⟨k1, k2, k3⟩⟩ := b
    · exact ⟨.inl ⟨k1.trans h1, k2.trans h2, k3.trans h3⟩⟩
    · exact ⟨.inr (.inl ⟨h1 ▸ k1, k2, by rw [k3, h2]⟩)⟩
    · exact ⟨.inr (.inr ⟨h1 ▸ k1, h3 ▸ k2, k3⟩)⟩
  · obtain ⟨⟨k1, k2, -⟩ | ⟨k1, -, -⟩ | ⟨k1, -, -⟩⟩ := b
    · exact ⟨.inr (.inl ⟨h1, k1.trans h2, by rw [k2, h3]⟩)⟩
    · rw [h2] at k1; cases k1
    · rw [h2] at k1; cases k1
  · obtain ⟨⟨k1, -, -⟩ | ⟨k1, -, -⟩ | ⟨k1, -, -⟩⟩ := b
    · exact ⟨.inr (.inr ⟨h1, h2, k1.trans h3⟩)⟩
    · rw [h3] at k1; cases k1
    · rw [h3] at k1; cases k1

/-- A pump that is QUEUED after calm notifications outside AUTONOMOUS was QUEUED before. -/
theorem PumpStill.queued {n : Count} {x y : Pump} (a : PumpStill n x y) (h : y.state = .queued) :
    x.state = .queued := by
  obtain ⟨⟨h1, -, -⟩ | ⟨h1, h2, -⟩ | ⟨h1, -, h2⟩⟩ := a
  · rw [← h1, h]
  · exact h1
  · rw [h] at h2; cases h2

theorem Calm.refl (w : Work) : Calm w w :=
  ⟨rfl, rfl, rfl, fun _ => rfl, id, fun _ => .refl _, fun _ => rfl, fun _ _ => .refl _ _,
    fun _ e h _ => ⟨e.bypass, h⟩⟩

theorem Calm.trans {u v w : Work} (a : Calm u v) (b : Calm v w) : Calm u w where
  mode := b.mode.trans a.mode
  mono := b.mono.trans a.mono
  interlocks := b.interlocks.trans a.interlocks
  zones z := by rw [b.zones z, a.zones z]
  agenda h := b.agenda (a.agenda h)
  pumps p := (a.pumps p).trans (b.pumps p)
  stillZones h := (b.stillZones (by rw [a.mode]; exact h)).trans (a.stillZones h)
  stillPumps h p := by
    have e : v.now = u.now := congrArg Clock.mono a.mono
    exact (a.stillPumps h p).trans (e ▸ b.stillPumps (by rw [a.mode]; exact h) p)
  stillQueue h e m q := by
    have n : v.authority.mode ≠ .autonomous := by rw [a.mode]; exact h
    obtain ⟨c, hc⟩ := a.stillQueue h e m ((b.stillPumps n e.pump).queued q)
    exact b.stillQueue n { e with bypass := c } hc q

theorem calm_push (w : Work) (r : Reaction) (c : r.calm = true) : Calm w (w.push r) where
  mode := rfl
  mono := rfl
  interlocks := rfl
  zones _ := rfl
  agenda h q hq := by
    rcases List.mem_append.1 hq with m | m
    · exact h q m
    · rw [List.mem_singleton.1 m]; exact c
  pumps _ := .refl _
  stillZones _ := rfl
  stillPumps _ _ := .refl _ _
  stillQueue _ e h _ := ⟨e.bypass, h⟩

theorem calm_pushIf (w : Work) (b : Bool) (r : Reaction) (c : r.calm = true) :
    Calm w (w.pushIf b r) := by
  cases b
  · exact .refl w
  · exact calm_push w r c

/-- An update outside all that Calm looks at. -/
theorem calm_of_same {v w : Work} (a : w.authority = v.authority) (k : w.clock = v.clock)
    (i : w.interlocks = v.interlocks) (z : w.zones = v.zones) (g : w.agenda = v.agenda)
    (p : w.pumps = v.pumps) (q : w.queue = v.queue) : Calm v w :=
  ⟨by rw [a], k, i, fun _ => by rw [z], fun h => by rw [g]; exact h, fun _ => by rw [p]; exact .refl _,
    fun _ => z, fun _ _ => by rw [p]; exact .refl _ _, fun _ e h _ => ⟨e.bypass, by rw [q]; exact h⟩⟩

theorem calm_setPump (w : Work) (p : PumpId) (r : Pump) (k : PumpCalm w.pumps[p] r)
    (s : w.authority.mode ≠ .autonomous → PumpStill w.now w.pumps[p] r) : Calm w (w.setPump p r) where
  mode := rfl
  mono := rfl
  interlocks := rfl
  zones _ := rfl
  agenda h := h
  pumps q := by
    by_cases h : p = q
    · subst h; rw [setPump_pumps_self]; exact k
    · rw [setPump_pumps_of_ne w r h]; exact .refl _
  stillZones _ := rfl
  stillPumps n q := by
    by_cases h : p = q
    · subst h; rw [setPump_pumps_self]; exact s n
    · rw [setPump_pumps_of_ne w r h]; exact .refl _ _
  stillQueue _ e h _ := ⟨e.bypass, h⟩

theorem calm_placeOwn (w : Work) (p : Port) (t : OwnTelegram) : Calm w (w.placeOwn p t) := by
  cases p <;> exact calm_of_same rfl rfl rfl rfl rfl rfl rfl

theorem calm_offerAlert (v : Work) : Calm v v.offerAlert := by
  unfold Work.offerAlert
  split
  · split
    · exact calm_of_same rfl rfl rfl rfl rfl rfl rfl
    · split
      · refine Calm.trans (calm_placeOwn v .c { kind := .alert, bytes := v.alertBytes }) ?_
        exact calm_of_same rfl rfl rfl rfl rfl rfl rfl
      · exact .refl v
  · exact .refl v

theorem calm_latch (w : Work) (f : Flag) : Calm w (w.latch f) := by
  have events : ∀ (v : Work) (e : Events), Calm v (v.setEvents e) :=
    fun v e => calm_of_same rfl rfl rfl rfl rfl rfl rfl
  unfold Work.latch
  split
  · exact .refl w
  · dsimp only
    refine Calm.trans (events w { w.events with latched := w.events.latched ++ [⟨f, w.now⟩] }) ?_
    split
    · unfold Work.trigger
      dsimp only
      split
      · exact (events _ _).trans (calm_of_same rfl rfl rfl rfl rfl rfl rfl)
      · exact (events _ _).trans (calm_offerAlert _)
    · exact .refl _

/-! ### The sequencer -/

/-- A pump's new record; a QUEUED pump's entry leaves with it. -/
theorem calm_commitPump (w : Work) (p : PumpId) (new : Pump) (k : PumpCalm w.pumps[p] new)
    (s : w.authority.mode ≠ .autonomous → PumpStill w.now w.pumps[p] new) :
    Calm w (w.commitPump p new) := by
  unfold Work.commitPump
  dsimp only
  refine Calm.trans ?_ (calm_pushIf _ _ _ rfl)
  refine Calm.trans ?_ (calm_pushIf _ _ _ rfl)
  refine Calm.trans ?_ (calm_pushIf _ _ _ rfl)
  refine Calm.trans ?_ (calm_pushIf _ _ _ rfl)
  split
  · rename_i leaves
    simp only [Bool.and_eq_true, beq_iff_eq, bne_iff_ne] at leaves
    have a := calm_setPump w p new k s
    exact
      { mode := rfl, mono := rfl, interlocks := rfl, zones := fun _ => rfl, agenda := fun h => h
        pumps := a.pumps, stillZones := fun _ => rfl, stillPumps := a.stillPumps
        stillQueue := by
          intro _ e he hq
          refine ⟨e.bypass, List.mem_filter.2 ⟨he, ?_⟩⟩
          simp only [bne_iff_ne]
          rintro rfl
          have : (w.setPump e.pump new).pumps[e.pump].state = .queued := hq
          rw [setPump_pumps_self] at this
          exact leaves.2 this }
  · exact calm_setPump w p new k s

theorem calm_issueOne (w : Work) (p : PumpId) (c : PumpCommand) : Calm w (w.issueOne p c) := by
  unfold Work.issueOne
  split
  · dsimp only
    refine Calm.trans (Calm.trans (calm_placeOwn w _ _) (calm_setPump _ p _ ?_ ?_))
      (calm_of_same rfl rfl rfl rfl rfl rfl rfl)
    · exact ⟨rfl, rfl, rfl, rfl, fun _ _ _ => rfl, .inl⟩
    · exact fun _ => ⟨.inl ⟨rfl, rfl, rfl⟩⟩
  · exact calm_setPump w p _ ⟨rfl, rfl, rfl, rfl, fun _ _ _ => rfl, .inl⟩
      fun _ => ⟨.inl ⟨rfl, rfl, rfl⟩⟩

theorem calm_foldl {α : Type} (f : Work → α → Work) (h : ∀ w a, Calm w (f w a))
    (w : Work) (l : List α) : Calm w (l.foldl f w) := by
  induction l generalizing w with
  | nil => exact .refl w
  | cons a l ih => exact (h w a).trans (ih (f w a))

theorem calm_placePending (w : Work) (port : Port) : Calm w (w.placePending port) := by
  unfold Work.placePending
  refine calm_foldl _ (fun w p => ?_) w _
  unfold Work.tryPending
  split
  · split
    · exact calm_issueOne _ _ _
    · exact .refl _
  · exact .refl _

theorem calm_issue (w : Work) (p : PumpId) (c : PumpCommand) : Calm w (w.issue p c) := by
  unfold Work.issue
  dsimp only
  refine (calm_issueOne w p c).trans ?_
  split
  · exact calm_placePending _ _
  · exact .refl _

/-- The stop of a RUNNING pump; outside AUTONOMOUS calm notifications begin none but a pending one. -/
theorem calm_beginStop (w : Work) (p : PumpId) (r : w.pumps[p].state = .running)
    (s : w.authority.mode ≠ .autonomous → w.pumps[p].stopPending = true) :
    Calm w (w.beginStop p) := by
  have k : ∀ pos : Position, PumpCalm w.pumps[p]
      { w.pumps[p] with state := .stopping, resendDone := false, stopPending := false
                        position := some pos } := fun pos =>
    ⟨rfl, rfl, rfl, rfl, fun _ _ h => absurd r h, fun _ => .inr rfl⟩
  unfold Work.beginStop
  dsimp only
  split
  · exact (calm_commitPump w p _ (k _) fun n => ⟨.inr (.inr ⟨r, s n, rfl⟩)⟩).trans (calm_issue _ _ _)
  · exact (calm_commitPump w p _ (k _) fun n => ⟨.inr (.inr ⟨r, s n, rfl⟩)⟩).trans (calm_issue _ _ _)

theorem calm_testStops (w : Work) (z : ZoneId) : Calm w (w.testStops z) := by
  unfold Work.testStops
  split
  · exact .refl w
  · rename_i p l h
    have m : p ∈ w.stoppable z := by rw [h]; exact List.mem_cons_self ..
    simp only [State.stoppable, List.mem_filter, Bool.and_eq_true, beq_iff_eq] at m
    exact calm_beginStop w p m.2.1.1 fun _ => m.2.1.2

/-! ### The arbiter -/

theorem calm_grant (w : Work) (p : PumpId) (h : w.pumps[p].state = .queued) :
    Calm w (w.grant p) := by
  unfold Work.grant
  dsimp only
  refine (calm_commitPump w p _ ?_ fun _ => ?_).trans (calm_issue _ _ _)
  · exact ⟨rfl, rfl, rfl, rfl, fun _ n _ => absurd h n, fun r => absurd (h.symm.trans r) (by decide)⟩
  · exact ⟨.inr (.inl ⟨h, rfl, rfl⟩)⟩

theorem calm_countBypass (w : Work) (l : List PumpId) (p : PumpId) :
    Calm w (w.countBypass l p) where
  mode := rfl
  mono := rfl
  interlocks := rfl
  zones _ := rfl
  agenda h := h
  pumps _ := .refl _
  stillZones _ := rfl
  stillPumps _ _ := .refl _ _
  stillQueue _ e h _ := by
    by_cases c : (l.contains e.pump && w.pumps[e.pump].feeder == w.pumps[p].feeder) = true
    · exact ⟨_, List.mem_map.2 ⟨e, h, by rw [if_pos c]⟩⟩
    · exact ⟨e.bypass, List.mem_map.2 ⟨e, h, by rw [if_neg c]⟩⟩

theorem calm_testEntries (w : Work) (failed : List PumpId) (l : List PumpId) :
    Calm w (w.testEntries failed l) := by
  induction l generalizing w failed with
  | nil => exact .refl w
  | cons p l ih =>
    unfold Work.testEntries
    refine Calm.trans ?_ (ih _ _)
    unfold Work.testEntry
    split
    · rename_i h
      split
      · refine (calm_grant w p ?_).trans (calm_countBypass _ _ _)
        simp only [State.ready, Bool.and_eq_true, beq_iff_eq] at h
        exact h.1.1.1.1.1.1.1
      · exact .refl w
    · exact .refl w

/-! ### The demand unit, in AUTONOMOUS -/

theorem calm_auto_pump (w : Work) (auto : w.authority.mode = .autonomous) (p : PumpId) (r : Pump)
    (k : PumpCalm w.pumps[p] r) : Calm w (w.commitPump p r) :=
  calm_commitPump w p r k fun n => absurd auto n

theorem calm_startRequest (w : Work) (p : PumpId) (o : Origin) (n : Nat)
    (auto : w.authority.mode = .autonomous) : Calm w (w.startRequest p o n).2 := by
  unfold Work.startRequest
  split
  · rename_i h
    split
    · unfold Work.enqueue
      dsimp only
      generalize insertEntry _ w.queue = q
      refine Calm.trans ?_ (calm_push _ _ rfl)
      have a : Calm w (w.setQueue q) :=
        { mode := rfl, mono := rfl, interlocks := rfl, zones := fun _ => rfl, agenda := fun h => h
          pumps := fun _ => .refl _, stillZones := fun _ => rfl, stillPumps := fun _ _ => .refl _ _
          stillQueue := fun n => absurd auto n }
      refine a.trans (calm_auto_pump (w.setQueue q) auto p _ ?_)
      exact ⟨rfl, rfl, rfl, rfl, fun n _ _ => absurd h n,
        fun r => absurd (h.symm.trans r) (by decide)⟩
    · dsimp only
      split
      · exact calm_latch w _
      · exact .refl w
  · exact .refl w
  · unfold Work.startAnswered
    dsimp only
    repeat' split
    all_goals first
      | exact .refl w
      | exact calm_auto_pump w auto p _ ⟨rfl, rfl, rfl, rfl, fun _ _ _ => rfl, .inl⟩

theorem calm_stopRequest (w : Work) (p : PumpId) (auto : w.authority.mode = .autonomous) :
    Calm w (w.stopRequest p).2 := by
  unfold Work.stopRequest
  split
  · rename_i h
    exact calm_auto_pump w auto p _ ⟨rfl, rfl, rfl, rfl, fun _ n _ => absurd h n,
      fun r => absurd (h.symm.trans r) (by decide)⟩
  · unfold Work.stopTaken
    dsimp only
    repeat' split
    all_goals first
      | exact .refl w
      | exact calm_auto_pump w auto p _ ⟨rfl, rfl, rfl, rfl, fun _ _ _ => rfl, .inl⟩
      | (rename_i h _ _; exact calm_beginStop w p h fun n => absurd auto n)
      | exact calm_issue w p _

theorem calm_setCall (w : Work) (z : ZoneId) (n : Nat) (auto : w.authority.mode = .autonomous) :
    Calm w (w.setZone z { w.zones[z] with call := n }) where
  mode := rfl
  mono := rfl
  interlocks := rfl
  zones y := by
    by_cases h : z = y
    · subst h; rw [setZone_zones_self]
    · rw [setZone_zones_of_ne w _ h]
  agenda h := h
  pumps _ := .refl _
  stillZones n := absurd auto n
  stillPumps _ _ := .refl _ _
  stillQueue _ e h _ := ⟨e.bypass, h⟩

theorem calm_reconcile (w : Work) (z : ZoneId) (auto : w.authority.mode = .autonomous) :
    Calm w (w.reconcile z) := by
  have start : ∀ (n : Nat) (v : Work), v.authority.mode = .autonomous →
      Calm v (v.startMissing z n) := by
    intro n
    induction n with
    | zero => intro v _; exact .refl v
    | succ n ih =>
      intro v a
      unfold Work.startMissing
      split
      · exact .refl v
      · rename_i p _
        have h := calm_startRequest v p .demand v.zones[z].demandPriority a
        split
        · rename_i e; rw [e] at h; exact h.trans (ih _ (h.mode.trans a))
        · rename_i e; rw [e] at h; exact h
  have shed : ∀ (n : Nat) (v : Work), v.authority.mode = .autonomous →
      Calm v (v.shedSurplus z n) := by
    intro n
    induction n with
    | zero => intro v _; exact .refl v
    | succ n ih =>
      intro v a
      unfold Work.shedSurplus
      split
      · rename_i p _
        have h := calm_stopRequest v p a
        exact h.trans (ih _ (h.mode.trans a))
      · split
        · rename_i p _
          have h := calm_stopRequest v p a
          exact h.trans (ih _ (h.mode.trans a))
        · exact .refl v
  unfold Work.reconcile
  dsimp only
  split
  · exact start _ w auto
  · exact shed _ w auto

theorem calm_pumpNotified (w : Work) (z : ZoneId) : Calm w (w.pumpNotified z) := by
  unfold Work.pumpNotified
  split
  · rename_i auto
    split
    · exact (calm_setCall w z _ auto).trans (calm_reconcile _ _ auto)
    · exact calm_reconcile w z auto
  · exact .refl w

/-! ### A whole step -/

theorem calm_react (w : Work) (r : Reaction) (h : r.calm = true) : Calm w (w.react r) := by
  cases r
  · cases h
  · cases h
  · cases h
  · cases h
  · exact calm_pumpNotified w _
  · exact calm_testEntries w _ _
  · exact calm_testStops w _

theorem takeFirstOf_mem (a : Agent) (l : List Reaction) (x : Reaction × List Reaction)
    (h : takeFirstOf a l = some x) : x.1 ∈ l ∧ ∀ r ∈ x.2, r ∈ l := by
  induction l generalizing x with
  | nil => cases h
  | cons r l ih =>
    unfold takeFirstOf at h
    split at h
    · cases h; exact ⟨List.mem_cons_self .., fun r m => List.mem_cons_of_mem _ m⟩
    · simp only [Option.map_eq_some_iff] at h
      obtain ⟨y, hy, rfl⟩ := h
      obtain ⟨m, n⟩ := ih y hy
      refine ⟨List.mem_cons_of_mem _ m, fun q hq => ?_⟩
      rcases List.mem_cons.1 hq with rfl | hq
      · exact List.mem_cons_self ..
      · exact List.mem_cons_of_mem _ (n q hq)

theorem calm_next (w v : Work) (r : Reaction) (h : w.next = some (r, v)) (c : AllCalm w.agenda) :
    r.calm = true ∧ Calm w v := by
  have key : ∀ (a : Agent) (ch : List Nat) (x : Reaction × List Reaction),
      takeFirstOf a w.agenda = some x →
      x.1.calm = true ∧ Calm w { w with agenda := x.2, choices := ch } := by
    intro a ch x hx
    obtain ⟨m, n⟩ := takeFirstOf_mem a _ _ hx
    exact ⟨c _ m,
      { mode := rfl, mono := rfl, interlocks := rfl, zones := fun _ => rfl
        agenda := fun _ r hr => c r (n r hr), pumps := fun _ => .refl _
        stillZones := fun _ => rfl, stillPumps := fun _ _ => .refl _ _
        stillQueue := fun _ e h _ => ⟨e.bypass, h⟩ }⟩
  unfold Work.next at h
  split at h
  · cases h
  · simp only [Option.map_eq_some_iff, Prod.mk.injEq] at h
    obtain ⟨x, hx, rfl, rfl⟩ := h
    exact key _ _ x hx
  · simp only [Option.map_eq_some_iff, Prod.mk.injEq] at h
    obtain ⟨x, hx, rfl, rfl⟩ := h
    exact key _ _ x hx

theorem calm_drain (n : Nat) (w : Work) (c : AllCalm w.agenda) : Calm w (Work.drain n w) := by
  induction n generalizing w with
  | zero => exact .refl w
  | succ n ih =>
    unfold Work.drain
    split
    · exact .refl w
    · rename_i r v h
      obtain ⟨cr, hv⟩ := calm_next w v r h c
      have hr := hv.trans (calm_react v r cr)
      exact hr.trans (ih _ (hr.agenda c))

/-- What follows from an operation that sends calm notifications only. -/
theorem settle_calm (w : Work) (c : AllCalm w.agenda) : Calm w w.settle := calm_drain _ w c

/-- What follows from an operation that sends no notification: nothing. -/
theorem settle_silent (w : Work) (h : w.agenda = []) : w.settle = w := by
  unfold Work.settle Work.drain Config.settleBound
  simp [Work.next, h, waitingAgents]

/-! ### Requests -/

/-- A request whose operation sends calm notifications only. -/
theorem manage_calm (s : State) (kind : Byte) (f : Work → Answer × Work) (a : Answer) (u : Work)
    (h : f ((Work.of s).setReplying true) = (a, u)) (r : u.replying = true)
    (p : u.switch.partAddress = s.switch.partAddress)
    (d : a.deferred = none ∨ u.portC.takesOwn = true) (c : AllCalm u.agenda) :
    ∃ v : Work, Calm u v ∧ run (fun w => w.manage kind f) s = v.toState := by
  have A := settle_calm u c
  let v : Work := ((u.settle.setPort .c (u.portC.withReply (s.replyTo kind a))).setReplying
    false).setOwed false
  have B : Calm u v := A.trans (calm_of_same rfl rfl rfl rfl rfl rfl rfl)
  have offer : Calm v v.offerAlert := calm_offerAlert v
  refine ⟨(if u.settle.offerOwed then v.offerAlert else v).settle, ?_, manage_run s kind f a u h r p d⟩
  split
  · exact (B.trans offer).trans (settle_calm _ ((B.trans offer).agenda c))
  · exact B.trans (settle_calm _ (B.agenda c))

/-- A request whose operation sends no notification and triggers no alert: the state it gave, with the
reply at port C. -/
theorem manage_silent (s : State) (kind : Byte) (f : Work → Answer × Work) (a : Answer) (u : Work)
    (h : f ((Work.of s).setReplying true) = (a, u)) (r : u.replying = true)
    (p : u.switch.partAddress = s.switch.partAddress)
    (d : a.deferred = none ∨ u.portC.takesOwn = true) (n : u.agenda = [])
    (o : u.offerOwed = false) :
    run (fun w => w.manage kind f) s =
      { u.toState with portC := u.portC.withReply (s.replyTo kind a) } := by
  rw [manage_run s kind f a u h r p d, settle_silent u n, o]
  simp only [Bool.false_eq_true, if_false]
  rw [settle_silent _ (by exact n)]
  rfl

/-- A request whose operation does nothing. -/
theorem manage_nothing (s : State) (kind : Byte) (f : Work → Answer × Work) (a : Answer)
    (h : f ((Work.of s).setReplying true) = (a, (Work.of s).setReplying true))
    (d : a.deferred = none) :
    run (fun w => w.manage kind f) s = s.answering kind a :=
  manage_silent s kind f a _ h rfl rfl (.inl d) rfl rfl

end Sys2Proof.Machine
end

