-- ==== Sys2Proof/Laws/LineCode.lean ====
section
/-! SUPPORT. The small lemmas of the line code, the receiver and the test pattern: intervals taken in parts, idle fill, a change of phase field by field, and what a step of the generator and of the checker in sync leaves. -/

namespace Sys2Proof.Machine

/-! ### Intervals taken in parts -/

@[simp] theorem ReceiverPhase.takeAll_nil (x : ReceiverPhase) : x.takeAll [] = (x, []) := rfl

theorem ReceiverPhase.takeAll_cons (x : ReceiverPhase) (i : Sign) (l : List Sign) :
    x.takeAll (i :: l) = (((x.take i).1.takeAll l).1, (x.take i).2 ++ ((x.take i).1.takeAll l).2) :=
  rfl

@[simp] theorem Receiver.takeAll_nil (x : Receiver) : x.takeAll [] = (x, []) := rfl

theorem Receiver.takeAll_cons (x : Receiver) (i : Interval) (l : List Interval) :
    x.takeAll (i :: l) = (((x.take i).1.takeAll l).1, (x.take i).2 ++ ((x.take i).1.takeAll l).2) :=
  rfl

theorem Receiver.takeAll_append (x : Receiver) (l m : List Interval) :
    x.takeAll (l ++ m) =
      (((x.takeAll l).1.takeAll m).1, (x.takeAll l).2 ++ ((x.takeAll l).1.takeAll m).2) := by
  induction l generalizing x with
  | nil => simp
  | cons i l ih => simp [Receiver.takeAll_cons, ih, List.append_assoc]

/-- A bit comes to a receiver that holds back no interval as a sign of its own. -/
theorem Receiver.take_carries (phase : ReceiverPhase) (b : Bool) :
    Receiver.take { phase := phase } (.carries b) =
      ({ phase := (phase.take (.bit b)).1 }, (phase.take (.bit b)).2) := by
  simp [Receiver.take, signsOf, ReceiverPhase.takeAll_cons]

/-- Idle fill brings a hunting receiver nothing. -/
theorem Receiver.takeAll_idleFill (n : Nat) : Receiver.takeAll {} (idleFill n) = ({}, []) := by
  induction n with
  | zero => rfl
  | succ n ih =>
    have h : idleFill (n + 1) = .carries true :: idleFill n := rfl
    have t : Receiver.take {} (.carries true) = ({}, []) := rfl
    rw [h, Receiver.takeAll_cons, t]
    simp [ih]

theorem byteCode_length (b : Byte) : (byteCode b).length = 10 := by simp [byteCode]

theorem lineCode_cons (b : Byte) (l : List Byte) :
    (b :: l).flatMap byteCode = byteCode b ++ l.flatMap byteCode := rfl

/-! ### A change of phase -/

@[simp] theorem PortRecord.inPhase_phase (r : PortRecord) (x : ReceiverPhase) :
    (r.inPhase x).receiver.phase = x := rfl
@[simp] theorem PortRecord.inPhase_held (r : PortRecord) (x : ReceiverPhase) :
    (r.inPhase x).receiver.held = r.receiver.held := rfl
@[simp] theorem PortRecord.inPhase_state (r : PortRecord) (x : ReceiverPhase) :
    (r.inPhase x).state = r.state := rfl
@[simp] theorem PortRecord.inPhase_own (r : PortRecord) (x : ReceiverPhase) :
    (r.inPhase x).own = r.own := rfl
@[simp] theorem PortRecord.inPhase_pass (r : PortRecord) (x : ReceiverPhase) :
    (r.inPhase x).pass = r.pass := rfl
@[simp] theorem PortRecord.inPhase_sending (r : PortRecord) (x : ReceiverPhase) :
    (r.inPhase x).sending = r.sending := rfl
@[simp] theorem PortRecord.inPhase_live (r : PortRecord) (x : ReceiverPhase) :
    (r.inPhase x).live = r.live := rfl
@[simp] theorem PortRecord.inPhase_holding (r : PortRecord) (x : ReceiverPhase) :
    (r.inPhase x).holding = r.holding := rfl
@[simp] theorem PortRecord.inPhase_intervals (r : PortRecord) (x : ReceiverPhase) :
    (r.inPhase x).intervals = r.intervals := rfl
@[simp] theorem PortRecord.inPhase_checker (r : PortRecord) (x : ReceiverPhase) :
    (r.inPhase x).checker = r.checker := rfl

/-! ### The generator and the checker -/

@[simp] theorem Generator.advance_register (g : Generator) (t : TestSettings) :
    (g.advance t).register = shiftIn g.register (g.bit t) := rfl
@[simp] theorem Generator.advance_place (g : Generator) (t : TestSettings) :
    (g.advance t).place = (g.place + 1) % 24 := rfl
@[simp] theorem Generator.advance_invertNext (g : Generator) (t : TestSettings) :
    (g.advance t).invertNext = false := rfl

/-- A bit changes neither state of the checker: its moves are commands. -/
theorem Checker.take_state (c : Checker) (t : TestSettings) (b : Bool) :
    (c.take t b).1.state = c.state := by
  unfold Checker.take
  cases h : c.state with
  | inSync => simp [Checker.check, h]
  | hunting =>
    have prbs (p : Pattern) (x : Bool) : (c.huntPrbs p x).1.state = c.state := by
      unfold Checker.huntPrbs
      split <;> [rfl; (split <;> rfl)]
    have user (x : Bool) : (c.huntUser t x).1.state = c.state := by
      unfold Checker.huntUser
      dsimp only
      split <;> rfl
    dsimp only
    split
    · rw [user, h]
    · rw [prbs, h]

theorem Checker.take_inSync (c : Checker) (t : TestSettings) (b : Bool) (h : c.state = .inSync) :
    c.take t b = c.check t (b != t.invert) := by simp [Checker.take, h]

theorem Checker.checkedAfter_length (c : Checker) (wrong : Bool) :
    (c.checkedAfter wrong).length ≤ Config.syncWindow := by
  simp only [Checker.checkedAfter, List.length_take]
  exact Nat.min_le_left _ _

end Sys2Proof.Machine
end

