-- ==== Sys2Proof/Laws/PerInstr.lean ====
section
/-! SUPPORT. The families of statements made for every command: `Carried`, that a well-formed command which a management telegram carries has a management kind and items that fit a telegram (R162, R172). -/

namespace Sys2Proof.Laws

open Sys2Proof.Machine

/-- A well-formed command that one management telegram carries has a management kind and at most 56
item bytes (R162, R172). -/
def Carried.Statement (c : Instr) : Prop :=
  ∀ kind items, requestOf c = some (kind, items) → Instr.wellFormed c = true →
    isManagementKind kind = true ∧ items.length ≤ 56

theorem Carried.of_none {c : Instr} (h : requestOf c = none) : Carried.Statement c :=
  fun _ _ e => absurd (h.symm.trans e) (by simp)

theorem Carried.of_fixed {c : Instr} {kind : Byte} {items : List Byte}
    (h : requestOf c = some (kind, items)) (hk : isManagementKind kind = true)
    (hl : items.length ≤ 56) : Carried.Statement c := by
  intro k l e _
  rw [h] at e
  cases e
  exact ⟨hk, hl⟩

theorem Carried.flatMap_length {α : Type} (f : α → List Byte) (n : Nat) (h : ∀ a, (f a).length = n) :
    ∀ l : List α, (l.flatMap f).length = n * l.length
  | [] => rfl
  | a :: l => by
    simp [List.flatMap_cons, h, Carried.flatMap_length f n h l, Nat.mul_add, Nat.add_comm]

theorem Carried.of_fields {c : Instr} (table index : Byte) (l : List FieldEntry)
    (h : requestOf c = some (loadItems table index l)) (hw : Instr.wellFormed c = fieldsFit l) :
    Carried.Statement c := by
  intro k items e w
  rw [h] at e
  rw [hw] at w
  cases e
  refine ⟨by decide, ?_⟩
  have := Carried.flatMap_length fieldBytes 5 (fun _ => rfl) l
  simp only [fieldsFit, decide_eq_true_eq] at w
  simp only [List.length_cons, this]
  omega

theorem Carried.coldReset (straps : Addr) :
    Carried.Statement (.coldReset straps) := Carried.of_none rfl

theorem Carried.restart :
    Carried.Statement .restart := Carried.of_fixed rfl (by decide) (by simp)

theorem Carried.inputLevelChange (line : LineId) (level : PinLevel) :
    Carried.Statement (.inputLevelChange line level) := Carried.of_none rfl

theorem Carried.filterExpiry (line : LineId) :
    Carried.Statement (.filterExpiry line) := Carried.of_none rfl

theorem Carried.secondEvent :
    Carried.Statement .secondEvent := Carried.of_none rfl

theorem Carried.minuteEvent :
    Carried.Statement .minuteEvent := Carried.of_none rfl

theorem Carried.hourEvent :
    Carried.Statement .hourEvent := Carried.of_none rfl

theorem Carried.dayEvent :
    Carried.Statement .dayEvent := Carried.of_none rfl

theorem Carried.portUp (port : Port) :
    Carried.Statement (.portUp port) := Carried.of_none rfl

theorem Carried.lossOfCode (port : Port) :
    Carried.Statement (.lossOfCode port) := Carried.of_none rfl

theorem Carried.telegramAbandoned (port : Port) (cause : AbandonCause) :
    Carried.Statement (.telegramAbandoned port cause) := Carried.of_none rfl

theorem Carried.receiveCompletion (port : Port) (bytes : List Byte) :
    Carried.Statement (.receiveCompletion port bytes) := Carried.of_none rfl

theorem Carried.levelReport (source : Addr) (items : List LevelItem) :
    Carried.Statement (.levelReport source items) := Carried.of_none rfl

theorem Carried.pumpReport (source : Addr) (items : List PumpItem) :
    Carried.Statement (.pumpReport source items) := Carried.of_none rfl

theorem Carried.timeSet (time : BitVec 24) (day : BitVec 16) :
    Carried.Statement (.timeSet time day) := Carried.of_fixed rfl (by decide) (by simp [be24, be16])

theorem Carried.start (pump : PumpId) (priority : Byte) :
    Carried.Statement (.start pump priority) := Carried.of_none rfl

theorem Carried.stop (pump : PumpId) :
    Carried.Statement (.stop pump) := Carried.of_none rfl

theorem Carried.speed (pump : PumpId) (percent : Byte) :
    Carried.Statement (.speed pump percent) := Carried.of_none rfl

theorem Carried.partLoadZone (index : Byte) (fields : List FieldEntry) :
    Carried.Statement (.partLoadZone index fields) := Carried.of_fields 1 _ _ rfl rfl

theorem Carried.partLoadHouse (index : Byte) (fields : List FieldEntry) :
    Carried.Statement (.partLoadHouse index fields) := Carried.of_fields 2 _ _ rfl rfl

theorem Carried.partLoadPump (index : Byte) (fields : List FieldEntry) :
    Carried.Statement (.partLoadPump index fields) := Carried.of_fields 3 _ _ rfl rfl

theorem Carried.partLoadRunTime (index : Byte) (fields : List FieldEntry) :
    Carried.Statement (.partLoadRunTime index fields) := Carried.of_fields 4 _ _ rfl rfl

theorem Carried.partLoadProfile (index : Byte) (points : List PointBody) :
    Carried.Statement (.partLoadProfile index points) := by
  intro k items e w
  cases e
  refine ⟨by decide, ?_⟩
  have := Carried.flatMap_length pointBytes 3 (fun _ => rfl) points
  simp only [Instr.wellFormed, decide_eq_true_eq] at w
  simp only [List.length_append, List.length_cons, List.length_nil, this]
  omega

theorem Carried.partLoadFeeder (index : Byte) (fields : List FieldEntry) :
    Carried.Statement (.partLoadFeeder index fields) := Carried.of_fields 6 _ _ rfl rfl

theorem Carried.partLoadInterlock (index : Byte) (body : InterlockBody) :
    Carried.Statement (.partLoadInterlock index body) := Carried.of_fixed rfl (by decide) (by simp [interlockBytes, be16])

theorem Carried.partLoadInput (index : Byte) (fields : List FieldEntry) :
    Carried.Statement (.partLoadInput index fields) := Carried.of_fields 8 _ _ rfl rfl

theorem Carried.partLoadPlanActive (index : Byte) (window : Option WindowBody) :
    Carried.Statement (.partLoadPlanActive index window) := by
  cases window <;> exact Carried.of_fixed rfl (by decide) (by simp [windowBytes, be16])

theorem Carried.partLoadPlanNext (index : Byte) (window : Option WindowBody) :
    Carried.Statement (.partLoadPlanNext index window) := by
  cases window <;> exact Carried.of_fixed rfl (by decide) (by simp [windowBytes, be16])

theorem Carried.partLoadRoute (index : Byte) (fields : List FieldEntry) :
    Carried.Statement (.partLoadRoute index fields) := Carried.of_fields 11 _ _ rfl rfl

theorem Carried.partLoadSwitch (index : Byte) (fields : List FieldEntry) :
    Carried.Statement (.partLoadSwitch index fields) := Carried.of_fields 12 _ _ rfl rfl

theorem Carried.partLoadPort (index : Byte) (fields : List FieldEntry) :
    Carried.Statement (.partLoadPort index fields) := Carried.of_fields 13 _ _ rfl rfl

theorem Carried.partLoadGeneral (index : Byte) (fields : List FieldEntry) :
    Carried.Statement (.partLoadGeneral index fields) := Carried.of_fields 14 _ _ rfl rfl

theorem Carried.partRead (table : Byte) (index : Byte) (position : Byte) :
    Carried.Statement (.partRead table index position) := Carried.of_fixed rfl (by decide) (by simp)

theorem Carried.run (target : Byte) :
    Carried.Statement (.run target) := Carried.of_fixed rfl (by decide) (by simp)

theorem Carried.supervise :
    Carried.Statement .supervise := Carried.of_fixed rfl (by decide) (by simp)

theorem Carried.autonomous :
    Carried.Statement .autonomous := Carried.of_fixed rfl (by decide) (by simp)

theorem Carried.config :
    Carried.Statement .config := Carried.of_fixed rfl (by decide) (by simp)

theorem Carried.clearLockout (pump : Byte) (member : Byte) :
    Carried.Statement (.clearLockout pump member) := Carried.of_fixed rfl (by decide) (by simp)

theorem Carried.enableInterlock (entry : Byte) (request : Byte) :
    Carried.Statement (.enableInterlock entry request) := Carried.of_fixed rfl (by decide) (by simp)

theorem Carried.clearFlags (kind : Byte) (object : Byte) :
    Carried.Statement (.clearFlags kind object) := Carried.of_fixed rfl (by decide) (by simp)

theorem Carried.latchCounter (port : Byte) :
    Carried.Statement (.latchCounter port) := Carried.of_fixed rfl (by decide) (by simp)

theorem Carried.portMode (port : Byte) (mode : Byte) (settings : TestBody) :
    Carried.Statement (.portMode port mode settings) := by
  refine Carried.of_fixed rfl (by decide) ?_
  unfold portModeBytes
  split <;> simp [be24, be16]

theorem Carried.insertError (port : Byte) :
    Carried.Statement (.insertError port) := Carried.of_fixed rfl (by decide) (by simp)

theorem Carried.portReset (port : Byte) :
    Carried.Statement (.portReset port) := Carried.of_fixed rfl (by decide) (by simp)

theorem Carried.planMark :
    Carried.Statement .planMark := Carried.of_fixed rfl (by decide) (by simp)

theorem Carried.planSwap :
    Carried.Statement .planSwap := Carried.of_fixed rfl (by decide) (by simp)

theorem Carried.transmitTake (port : Port) :
    Carried.Statement (.transmitTake port) := Carried.of_none rfl

theorem Carried.transmissionComplete (port : Port) :
    Carried.Statement (.transmissionComplete port) := Carried.of_none rfl

theorem Carried.staleTimerExpiry (zone : ZoneId) :
    Carried.Statement (.staleTimerExpiry zone) := Carried.of_none rfl

theorem Carried.silenceTimerExpiry (house : HouseId) :
    Carried.Statement (.silenceTimerExpiry house) := Carried.of_none rfl

theorem Carried.stepTimerExpiry (zone : ZoneId) :
    Carried.Statement (.stepTimerExpiry zone) := Carried.of_none rfl

theorem Carried.dwellExpiry (pump : PumpId) :
    Carried.Statement (.dwellExpiry pump) := Carried.of_none rfl

theorem Carried.startConfirmExpiry (pump : PumpId) :
    Carried.Statement (.startConfirmExpiry pump) := Carried.of_none rfl

theorem Carried.stopConfirmExpiry (pump : PumpId) :
    Carried.Statement (.stopConfirmExpiry pump) := Carried.of_none rfl

theorem Carried.minRunExpiry (pump : PumpId) :
    Carried.Statement (.minRunExpiry pump) := Carried.of_none rfl

theorem Carried.minOffExpiry (pump : PumpId) :
    Carried.Statement (.minOffExpiry pump) := Carried.of_none rfl

theorem Carried.queueWaitEnd (pump : PumpId) :
    Carried.Statement (.queueWaitEnd pump) := Carried.of_none rfl

theorem Carried.settleTimerExpiry (zone : ZoneId) :
    Carried.Statement (.settleTimerExpiry zone) := Carried.of_none rfl

theorem Carried.controlSilenceExpiry :
    Carried.Statement .controlSilenceExpiry := Carried.of_none rfl

theorem Carried.fallbackExpiry :
    Carried.Statement .fallbackExpiry := Carried.of_none rfl

theorem Carried.holdoffExpiry :
    Carried.Statement .holdoffExpiry := Carried.of_none rfl

theorem Carried.testTimerExpiry (port : Port) :
    Carried.Statement (.testTimerExpiry port) := Carried.of_none rfl

theorem Carried.monotonicCountRise :
    Carried.Statement .monotonicCountRise := Carried.of_none rfl

theorem Carried.lineViolation (port : Port) :
    Carried.Statement (.lineViolation port) := Carried.of_none rfl

theorem Carried.checkerInSync (port : Port) :
    Carried.Statement (.checkerInSync port) := Carried.of_none rfl

theorem Carried.patternBitError (port : Port) :
    Carried.Statement (.patternBitError port) := Carried.of_none rfl

theorem Carried.checkerReturnToHunting (port : Port) :
    Carried.Statement (.checkerReturnToHunting port) := Carried.of_none rfl

end Sys2Proof.Laws
end

