-- ==== Sys2Proof/Laws/Ports.lean ====
section
/-! SUPPORT. The small lemmas of ports and of the pumps they serve: the count of intervals at a change of state, what a flush takes from the transmit side, timers timed anew by a load, and a pump without its timers or telegrams. -/

namespace Sys2Proof.Machine

/-! ### The count of intervals at a change of state (R136, R137) -/

theorem PortRecord.intervalsIn_test {r : PortRecord} (h : r.state = .up) :
    r.intervalsIn .test = r.intervals := by simp [PortRecord.intervalsIn, h]

@[simp] theorem PortRecord.intervalsIn_down (r : PortRecord) : r.intervalsIn .down = 0 := by
  simp [PortRecord.intervalsIn]

@[simp] theorem PortRecord.intervalsIn_up (r : PortRecord) : r.intervalsIn .up = 0 := by
  simp [PortRecord.intervalsIn]

/-! ### What a flush takes (R138) -/

@[simp] theorem PortRecord.ownTelegrams_none {r : PortRecord} (h : r.sending = none) :
    r.ownTelegrams = r.own := by simp [PortRecord.ownTelegrams, h]

theorem PortRecord.ownTelegrams_own {r : PortRecord} {t : OwnTelegram}
    (h : r.sending = some (.own t)) : r.ownTelegrams = t :: r.own := by
  simp [PortRecord.ownTelegrams, h]

theorem PortRecord.ownTelegrams_pass {r : PortRecord} {b : List Byte}
    (h : r.sending = some (.pass b)) : r.ownTelegrams = r.own := by
  simp [PortRecord.ownTelegrams, h]

/-- A flush in one line: the transmit side is emptied, the pass telegrams are counted, and each telegram
of the part is given up in its order, the one in transmission first. -/
theorem Work.flush_eq (w : Work) (p : Port) :
    w.flush p =
      ((w.setPort p { w.port p with sending := none, own := [], pass := [] }).countDropped p
        ((w.port p).pass.length + match (w.port p).sending with
          | some (.pass _) => 1
          | _ => 0)).flushOwns p (w.port p).ownTelegrams := by
  rcases h : (w.port p).sending with _ | (t | b) <;> simp [Work.flush, PortRecord.ownTelegrams, h]

/-! ### Timers timed anew by a load (R17, R130) -/

@[simp] theorem Timer.retimed_idle (d : Nat) (now : Count) : Timer.idle.retimed d now = .idle := rfl

/-- What a load of a limit can make of a running timer. -/
theorem Timer.retimed_running (start now : Count) (old d : Nat) :
    (Timer.running start old).retimed d now =
      if d ≤ elapsed start now then .idle else .running start d := by
  simp [Timer.retimed, Timer.retime, Timer.due]

/-! ### A pump without its timers or its telegrams (R45, R62) -/

@[simp] theorem Pump.untimed_paused (x : Pump) (now : Count) :
    (x.paused now).untimed = x.untimed := rfl

@[simp] theorem Pump.untimed_resumed (x : Pump) (now : Count) :
    (x.resumed now).untimed = x.untimed := rfl

@[simp] theorem Pump.paused_state (x : Pump) (now : Count) : (x.paused now).state = x.state := rfl

@[simp] theorem Pump.resumed_state (x : Pump) (now : Count) : (x.resumed now).state = x.state := rfl

/-- Discarded telegrams among which the awaited one is not leave the pump as it stands. -/
theorem Pump.discarding_of_newer {x : Pump} {c : PumpCommand} (h : x.issuePending = some c)
    (p : PumpId) (l : List OwnTelegram) : x.discarding p l = x := by
  unfold Pump.discarding
  split <;> simp_all

/-- A change of a house's reachability is taken pump by pump. -/
theorem Work.pausePump_eq (w : Work) (online : Bool) (p : PumpId) :
    w.pausePump online p =
      w.setPump p (if online then w.pumps[p].resumed w.now else w.pumps[p].paused w.now) := by
  cases online <;> rfl

end Sys2Proof.Machine
end

