-- ==== Sys2Proof/Tests/Slice0.lean ====
section
/-! SUPPORT. Small tests: ill-formed commands that WellFormed refuses, the worked cases of spec/ and single steps on small states, and for every statement with hypotheses a state and operands that meet them, clause by clause. -/

namespace Sys2Proof.Tests

open Sys2Proof Sys2Proof.Machine

/-! ### Helpers -/

/-- The state a command leaves. -/
def taken (c : Instr) (s : State) : State :=
  match exec c s with
  | .next t => t
  | .fault _ => s
  | .refused _ => s

/-- Every port UP, the control station at 0 and the part at 1, after a cold reset. -/
def up : State :=
  { State.reset with
    portC := { state := .up }, portF1 := { state := .up }, portF2 := { state := .up } }

/-- The same in a mode, with a record for pump 0 and its house ONLINE at station 10 on F1. -/
def pumped (m : Mode) (x : Pump) : State :=
  { up with
    authority := { mode := m }
    pumps := up.pumps.set 0 x
    houses := up.houses.set 0 { configured := true, address := some 10, comm := .online }
    switch := { up.switch with route := up.switch.route.set 10 (some .f1) } }

/-- The same with a record for zone 0. -/
def zoned (m : Mode) (z : Zone) (x : Pump) : State :=
  { pumped m x with zones := up.zones.set 0 z }

/-- A zone in use, LIVE, with a band of 3000 to 5000 mm and station 10 as its reporter. -/
def liveZone : Zone :=
  { inUse := true, reporter := some 10, startLevel := 3000, stopLevel := 5000, state := .live
    level := some 4000, quality := some .good, lastReading := some 0, forecast := some 4000
    staleTimer := .running 0 3000 }

/-- A pump at rest, last reported stopped and available. -/
def offPump : Pump :=
  { configured := true, state := .off, report := some ⟨false, true, false, 0, 0⟩ }

/-- Pump 0 is QUEUED and the queue holds its entry. -/
def queued (m : Mode) (x : Pump) : State :=
  { pumped m { x with configured := true, state := .queued } with
    queue := [{ pump := 0, origin := .control, priority := 1, entered := 0, bypass := 0 }] }

/-! ### WellFormed refuses what no line can bring -/

theorem test_wellFormed_refuses_long_telegram :
    Instr.wellFormed (.receiveCompletion .c (List.replicate 63 0)) = false := by decide

theorem test_wellFormed_refuses_broadcast_level_source :
    Instr.wellFormed (.levelReport 63 []) = false := by decide

theorem test_wellFormed_refuses_fifteen_levels :
    Instr.wellFormed (.levelReport 10 (List.replicate 15 ⟨0, 0, 0⟩)) = false := by decide

theorem test_wellFormed_refuses_broadcast_pump_source :
    Instr.wellFormed (.pumpReport 63 []) = false := by decide

theorem test_wellFormed_refuses_nineteen_pumps :
    Instr.wellFormed (.pumpReport 10 (List.replicate 19 ⟨0, 0, 0⟩)) = false := by decide

theorem test_wellFormed_refuses_eleven_fields :
    let l : List FieldEntry := List.replicate 11 ⟨1, 0⟩
    ([.partLoadZone 0 l, .partLoadHouse 0 l, .partLoadPump 0 l, .partLoadRunTime 0 l,
      .partLoadFeeder 0 l, .partLoadInput 0 l, .partLoadRoute 0 l, .partLoadSwitch 0 l,
      .partLoadPort 0 l, .partLoadGeneral 0 l] : List Instr).all
        (fun c => !Instr.wellFormed c) = true := by decide

theorem test_wellFormed_refuses_eighteen_points :
    Instr.wellFormed (.partLoadProfile 0 (List.replicate 18 ⟨0, 1⟩)) = false := by decide

theorem test_wellFormed_takes_the_longest :
    ([.receiveCompletion .f1 (List.replicate 62 0), .levelReport 62 (List.replicate 14 ⟨0, 0, 0⟩),
      .pumpReport 0 (List.replicate 18 ⟨0, 0, 0⟩), .partLoadZone 0 (List.replicate 10 ⟨1, 0⟩),
      .partLoadProfile 7 (List.replicate 17 ⟨0, 1⟩)] : List Instr).all Instr.wellFormed = true := by
  decide

/-! ### No row of the table has bits -/

theorem test_no_word_spells_a_command : decodeTableWord 16 0x4210 = none := rfl

/-! ### Worked cases of the demand arithmetic (02 sections 2.3 to 2.6 and 2.12) -/

theorem test_raw_slopes :
    [rawSlope 0 50 600, rawSlope 7 0 130, rawSlope 0 7 130, rawSlope 100 0 20, rawSlope 0 100 20,
      rawSlope 4 4 1800] = [-800, 516, -516, 32767, -32768, 0] := by decide

theorem test_smoothing :
    [smoothTrend (-480) (-800) 2, smoothTrend (-480) (-801) 2, smoothTrend 100 103 2,
      smoothTrend 103 100 2, smoothTrend 0 32767 4, smoothTrend 2047 (-32768) 4,
      smoothTrend 500 500 3] = [-560, -561, 100, 102, 2047, -129, 500] := by decide

theorem test_forecasts :
    [forecastOf 4150 (-560) 20, forecastOf 4150 (-561) 20, forecastOf 150 (-2000) 60,
      forecastOf 31900 1600 120, forecastOf 2600 0 15] = [3450, 3449, 0, 32000, 2600] := by decide

theorem test_effective_band :
    [shiftLevel 3400 600, shiftLevel 31800 500, shiftLevel 31800 1000, shiftLevel 500 (-2000),
      shiftLevel 1500 (-1200)] = [4000, 32000, 32000, 0, 300] := by decide

/-- 02 R35: 75 kW with inrush 20 gives 188, and the two ends of the range. -/
theorem test_start_charge :
    [({ configured := true, state := .starting, ratedLoad := 75, inrush := 20 } : Pump).charge,
      ({ configured := true, state := .starting, ratedLoad := 1, inrush := 8 } : Pump).charge,
      ({ configured := true, state := .starting, ratedLoad := 2000, inrush := 48 } : Pump).charge] =
        [188, 1, 12000] := by decide

/-- 06 section 6.3, the worked window selections. -/
theorem test_window_selection :
    let bank : List Window := [⟨60, 600, 100⟩, ⟨420, 0, 100⟩, ⟨1020, -400, 75⟩, ⟨1260, 0, 100⟩]
    [30, 60, 419, 420, 1020, 1439].map (fun m => (windowAt bank m).map Window.start) =
      [some 1260, some 60, some 60, some 420, some 1020, some 1260] := by decide

/-! ### Telegrams (11 R172, R173) -/

/-- The published check value of this CRC, over the nine digits. -/
theorem test_check_word :
    checkWord [0x31, 0x32, 0x33, 0x34, 0x35, 0x36, 0x37, 0x38, 0x39] = 0x29B1 := by
  decide +kernel

theorem test_header_bytes :
    ({ destination := 0, source := 17, kind := kindTimeSet, items := [0, 0, 1, 0, 2] } :
      Telegram).body = [0, 17, 0x30, 5, 0, 0, 1, 0, 2] := by decide

/-! ### Single steps -/

/-- 08 R149: straps of 0 and 63. -/
theorem test_straps_give_the_part_address :
    [(0 : Addr), 1, 62, 63].map (fun a => (taken (.coldReset a) up).switch.partAddress) =
      [1, 1, 62, 62] := by decide +kernel

/-- 06 R111: from 4 294 967 295 the count becomes 0, and the tenths from 9 become 0. -/
theorem test_count_returns_to_zero :
    let s := { up with clock := { up.clock with mono := 0xFFFFFFFF, tenths := 9 } }
    ((taken .monotonicCountRise s).clock.mono, (taken .monotonicCountRise s).clock.tenths) = (0, 0) := by
  decide +kernel

/-- 06 R110: the advance to midnight produces all four events. -/
theorem test_midnight_is_every_event :
    let s := { up with clock := { up.clock with timeOfDay := 86399, secondsDue := 1 } }
    let t := taken .secondEvent s
    (t.clock.timeOfDay, t.clock.minutesDue, t.clock.hoursDue, t.clock.daysDue) = (0, 1, 1, 1) := by
  decide +kernel

/-- 06 R118: from day 65 535 the count becomes 0, and an EMPTY bank is kept with PLAN_KEPT. -/
theorem test_day_count_wraps :
    let s := { up with clock := { up.clock with dayCount := 0xFFFF, daysDue := 1 } }
    ((taken .dayEvent s).clock.dayCount, (taken .dayEvent s).events.isLatched (.part .planKept)) =
      (0, true) := by decide +kernel

/-- 08 R139: a telegram broken off by a start mark is of class LENGTH. -/
theorem test_abandoned_telegram_counts_length :
    let s := { up with portF1 := { up.portF1 with counterClass := .length } }
    (taken (.telegramAbandoned .f1 .startMark) s).portF1.live = 1 ∧
      (taken (.telegramAbandoned .f1 .violation) s).portF1.live = 0 := by decide +kernel

/-- 01 R6: a level above 32 000 is clamped. -/
theorem test_level_is_clamped :
    ((taken (.levelReport 10 [⟨0, 40000, 0⟩]) (zoned .config liveZone {})).zones[(0 : ZoneId)].level) =
      some 32000 := by decide +kernel

/-- 01 R5: a reading from another station than the reporter raises the mismatch count. -/
theorem test_other_reporter_is_turned_away :
    ((taken (.levelReport 11 [⟨0, 4000, 0⟩]) (zoned .config liveZone {})).tracker.mismatch) = 1 := by
  decide +kernel

/-- 03 R49, R54: a trip seen takes a running pump out of service. -/
theorem test_trip_locks_out :
    let s := pumped .supervised { offPump with state := .running }
    let t := taken (.pumpReport 10 [⟨0, 5, 50⟩]) s
    (t.pumps[(0 : PumpId)].lockout.outstationTrip, t.pumps[(0 : PumpId)].tripSeen) = (true, true) := by
  decide +kernel

/-- 03 R44, 11 R175: a granted start without a profile is one START telegram at max speed, from the
part at 1 to station 10. -/
theorem test_start_sends_one_telegram :
    let s := { pumped .supervised { offPump with maxSpeed := 90 } with
      feeders := up.feeders.set 0 { limit := 100 } }
    ((taken (.start 0 2) s).portF1.own.map fun t => t.bytes.take 8) =
      [[10, 1, 0x20, 4, 0, 1, 90, 0]] := by decide +kernel

/-- 04 R77: a feeder limit of 0 grants nothing, so the pump waits QUEUED. -/
theorem test_start_waits_without_budget :
    (taken (.start 0 200) (pumped .supervised offPump)).queue.map
      (fun e => (e.pump, e.priority, e.bypass)) = [(0, 3, 0)] := by decide +kernel

/-- 03 R55: a STOP of a queued pump empties its place. -/
theorem test_stop_leaves_the_queue :
    (taken (.stop 0) (queued .supervised {})).queue = [] ∧
      (taken (.stop 0) (queued .supervised {})).pumps[(0 : PumpId)].state = .off := by decide +kernel

/-- 03 R60: a SPEED is clamped to the pump's bounds. -/
theorem test_speed_is_clamped :
    let s := pumped .supervised { offPump with state := .running, minSpeed := 40, maxSpeed := 90 }
    [(10 : Byte), 200].map (fun v =>
      (taken (.speed 0 v) s).portF1.own.map fun t => t.bytes.take 8) =
        [[[10, 1, 0x20, 4, 0, 3, 40, 0]], [[10, 1, 0x20, 4, 0, 3, 90, 0]]] := by decide +kernel

/-- 10 R163: a load outside CONFIG of a field that CONFIG alone may load. -/
theorem test_load_refused_outside_config :
    (taken (.partLoadZone 0 [⟨1, 1⟩]) (pumped .supervised {})).zones = up.zones := by decide +kernel

/-- 06 R114: a window of a start minute the bank holds replaces it. -/
theorem test_window_replaces :
    let s := { up with plan := { up.plan with next := [⟨60, 0, 100⟩], nextState := .complete } }
    let t := taken (.partLoadPlanNext 0 (some { start := 60, offset := 0xFF38, cap := 75 })) s
    (t.plan.next, t.plan.nextState) = ([⟨60, -200, 75⟩], .loading) := by decide +kernel

/-- 07 R122: a pump whose house is not configured fails validation; the reply names table PUMP and
the pump. -/
theorem test_run_names_the_failing_record :
    let s := { up with pumps := up.pumps.set 5 { offPump with deliveryZone := 0 } }
    (taken (.run 1) s).authority.mode = .config ∧
      ((taken (.run 1) s).portC.own.map fun t => t.bytes.dropLast.dropLast) =
        [[0, 1, 0x50, 5, 0x42, 1, 17, 3, 5]] := by decide +kernel

/-- 08 R142: the part's own queue goes first. -/
theorem test_own_queue_goes_first :
    let s := { up with portF1 := { up.portF1 with own := [⟨.alert, [1]⟩], pass := [[2]] } }
    (taken (.transmitTake .f1) s).portF1.sending = some (.own ⟨.alert, [1]⟩) ∧
      (taken (.transmitTake .f1) s).portF1.pass = [[2]] := by decide +kernel

/-- 08 R145: port C refuses a test without an end. -/
theorem test_port_c_needs_a_duration :
    (taken (.portMode 0 1 { pattern := 0, user := 0, invert := 0, duration := 0 }) up).portC.own.map
      (fun t => t.bytes.take 7) = [[0, 1, 0x50, 3, 0x42, 1, 15]] := by decide +kernel

/-- 10 R168: clearing one flag keeps the others' places. -/
theorem test_clear_flags_keeps_order :
    let s := { up with events := { up.events with latched :=
      [⟨.part .planKept, 1⟩, ⟨.pump .failToStop 47, 2⟩, ⟨.part .modeFallback, 3⟩] } }
    (taken (.clearFlags 2 47) s).events.latched =
      [⟨.part .planKept, 1⟩, ⟨.part .modeFallback, 3⟩] := by decide +kernel

/-- 07 R131: at the expiry of the fallback timer the mode is AUTONOMOUS and each call its active
pumps. -/
theorem test_fallback_enters_autonomous :
    let s := zoned .supervised { liveZone with call := 5 } { offPump with state := .running }
    let s := { s with authority := { s.authority with fallbackTimer := .running 0 0 } }
    (taken .fallbackExpiry s).authority.mode = .autonomous ∧
      (taken .fallbackExpiry s).zones[(0 : ZoneId)].call = 1 := by decide +kernel

/-- 05 section 5.2, the release band of entry 4, row by row: a start, an end or nothing. -/
theorem test_release_band :
    [(false, some 820), (false, some 800), (true, some 1100), (true, some 1101), (false, some 1000),
      (true, none)].map (fun x => zoneVerdict 0 x.2 none (.zoneAtOrBelow 0 800 300) x.1) =
      [none, some true, none, some false, none, none] := by decide

/-! ### Witnesses: a state and operands that meet the hypotheses of each statement, clause by clause -/

/-- After a cold reset with a record for one port. -/
def ported (p : Port) (r : PortRecord) : State :=
  match p with
  | .c => { up with portC := r }
  | .f1 => { up with portF1 := r }
  | .f2 => { up with portF2 := r }

/-- A reply of the part without an effect held back, and one with. -/
def plainReply : OwnTelegram := ⟨.reply none, [0, 1, 0x50, 0, 0, 0]⟩

theorem witness_stepTakesFrontCommand :
    (∃ (c : Instr) (rest : List Instr) (s : State), s.pending = c :: rest) ∧
      ∃ s : State, s.pending = [] :=
  ⟨⟨.supervise, [.config], { up with pending := [.supervise, .config] }, rfl⟩, ⟨up, rfl⟩⟩

theorem witness_inputLinesFilterLevels :
    (∃ (l : LineId) (s : State), 0 < s.inputs[l].filterTime) ∧
    (∃ (l : LineId) (s : State), s.inputs[l].filterTimer = none) ∧
    (∃ (l : LineId) (s : State), s.inputs[l].filterTimer ≠ none) ∧
    ∃ (l : LineId) (e : EntryId) (c : InterlockContent) (s : State),
      s.inputs[l].filterTimer ≠ none ∧
      (taken (.filterExpiry l) s).inputs[l].isActive ≠ s.inputs[l].isActive ∧
      s.interlocks[e].content = some c ∧ c.cause = .inputActive l ∧
      s.interlocks[e].enabled = true :=
  ⟨⟨3, up, by decide⟩,
    ⟨0, { up with inputs := up.inputs.set 0 { filterTimer := none } }, by decide⟩, ⟨0, up, by decide⟩,
    ⟨3, 31, ⟨.inputActive 3, .all, .inhibit⟩,
      { up with
        inputs := up.inputs.set 3 { lineLevel := .high, accepted := some .low }
        interlocks := up.interlocks.set 31
          { enabled := true, content := some ⟨.inputActive 3, .all, .inhibit⟩ } },
      by decide +kernel⟩⟩

theorem witness_countRisesAndTimersExpire :
    ∃ d n : Nat, d < 4294967296 ∧ n < 4294967296 ∧ d ≤ n ∧ ¬ n < 4294967295 :=
  ⟨4294967295, 4294967295, by decide⟩

theorem witness_secondEventTaken :
    (∃ s : State, s.clock.secondsDue = 0) ∧ ∃ s : State, 0 < s.clock.secondsDue :=
  ⟨⟨up, rfl⟩, ⟨{ up with clock := { up.clock with secondsDue := 1 } }, by decide⟩⟩

theorem witness_minuteAndDayEventsTaken :
    (∃ s : State, s.clock.minutesDue = 0) ∧ (∃ s : State, 0 < s.clock.minutesDue) ∧
    (∃ s : State, s.clock.daysDue = 0) ∧ ∃ s : State, 0 < s.clock.daysDue :=
  ⟨⟨up, rfl⟩, ⟨{ up with clock := { up.clock with minutesDue := 1 } }, by decide⟩, ⟨up, rfl⟩,
    ⟨{ up with clock := { up.clock with daysDue := 1 } }, by decide⟩⟩

theorem witness_timeSetTaken :
    (∃ time : BitVec 24, 86399 < time.toNat) ∧ (∃ time : BitVec 24, time.toNat ≤ 86399) ∧
    (∃ s : State, s.clock.daysDue = 0) ∧
    (∃ s : State, 0 < s.clock.daysDue ∧ s.plan.nextState = .complete) ∧
    ∃ s : State, 0 < s.clock.daysDue ∧ s.plan.nextState ≠ .complete :=
  ⟨⟨86400, by decide⟩, ⟨86399, by decide⟩, ⟨up, rfl⟩,
    ⟨{ up with
      clock := { up.clock with daysDue := 1 }
      plan := { up.plan with next := [⟨60, 0, 100⟩], nextState := .complete } }, by decide⟩,
    ⟨{ up with clock := { up.clock with daysDue := 1 } }, by decide⟩⟩

theorem witness_portUpTaken :
    (∃ (p : Port) (s : State), (s.port p).state ≠ .down) ∧
    (∃ s : State, (s.port .c).state = .down) ∧
    ∃ (p : Port) (h : HouseId) (s : State), (s.port p).state = .down ∧ p ≠ .c ∧
      s.houses[h].configured = true ∧ s.housePort h = some p :=
  ⟨⟨.c, up, by decide⟩, ⟨State.reset, by decide⟩,
    ⟨.f1, 0, { pumped .config {} with portF1 := {} }, by decide +kernel⟩⟩

theorem witness_lossOfCodeTaken :
    (∃ (p : Port) (s : State), (s.port p).state = .down) ∧
    (∃ (p : Port) (s : State), (s.port p).state = .test) ∧
    (∃ s : State, (s.port .c).state = .up ∧ (s.port .c).holdsBack = false) ∧
    ∃ (p : Port) (h : HouseId) (s : State), (s.port p).state = .up ∧ (s.port p).holdsBack = false ∧
      p ≠ .c ∧ s.houses[h].configured = true ∧ s.housePort h = some p :=
  ⟨⟨.f2, State.reset, by decide⟩, ⟨.f2, ported .f2 { state := .test }, by decide⟩,
    ⟨up, by decide⟩, ⟨.f1, 0, pumped .config {}, by decide +kernel⟩⟩

theorem witness_errorCountingTaken :
    (∃ r : PortRecord, r.live ≤ 65535 ∧ ¬ r.live < 65535) ∧
    (∃ (p : Port) (s : State), ¬((s.port p).state = .test ∧ (s.port p).checker.state = .inSync)) ∧
    (∃ (p : Port) (s : State), (s.port p).state = .test ∧ (s.port p).checker.state = .inSync ∧
      (s.port p).errorFlagged = false) ∧
    ∃ (p : Port) (s : State), (s.port p).state = .test ∧ (s.port p).checker.state = .inSync ∧
      (s.port p).errorFlagged = true :=
  ⟨⟨{ live := 65535 }, by decide⟩, ⟨.c, up, by decide⟩,
    ⟨.f1, ported .f1 { state := .test, checker := { state := .inSync } }, by decide⟩,
    ⟨.f1, ported .f1 { state := .test, checker := { state := .inSync }, errorFlagged := true }, by decide⟩⟩

theorem witness_transmitTakeOrder :
    (∃ (p : Port) (s : State) (x : OwnTelegram) (rest : List OwnTelegram), (s.port p).state = .up ∧
      (s.port p).sending = none ∧ (s.port p).own = x :: rest) ∧
    (∃ (p : Port) (s : State) (x : List Byte) (rest : List (List Byte)), (s.port p).state = .up ∧
      (s.port p).sending = none ∧ (s.port p).own = [] ∧ (s.port p).pass = x :: rest) ∧
    (∃ (p : Port) (s : State), (s.port p).state ≠ .up) ∧
    (∃ (p : Port) (s : State), (s.port p).sending ≠ none) ∧
    ∃ (p : Port) (s : State), (s.port p).own = [] ∧ (s.port p).pass = [] :=
  ⟨⟨.c, ported .c { state := .up, own := [plainReply] }, plainReply, [], by decide⟩,
    ⟨.c, ported .c { state := .up, pass := [[1]] }, [1], [], by decide⟩,
    ⟨.c, State.reset, by decide⟩,
    ⟨.c, ported .c { state := .up, sending := some (.pass [1]) }, by decide⟩, ⟨.c, up, by decide⟩⟩

theorem witness_transmissionCompleteTaken :
    (∃ (p : Port) (s : State), (s.port p).sending = none) ∧
    (∃ (p : Port) (s : State) (b : List Byte), (s.port p).sending = some (.own ⟨.reply none, b⟩)) ∧
    (∃ (p : Port) (s : State) (b : List Byte), (s.port p).sending = some (.pass b)) ∧
    (∃ (p : Port) (s : State) (b : List Byte), (s.port p).sending = some (.own ⟨.alert, b⟩)) ∧
    (∃ (p : Port) (s : State) (pump : PumpId) (n : Nat) (b : List Byte) (a : Issued),
      (s.port p).sending = some (.own ⟨.command pump n, b⟩) ∧ s.pumps[pump].awaited = some a ∧
        a.serial ≠ n) ∧
    (∃ (p : Port) (s : State) (pump : PumpId) (n : Nat) (b : List Byte) (a : Issued),
      (s.port p).sending = some (.own ⟨.command pump n, b⟩) ∧ s.pumps[pump].awaited = some a ∧
        a.serial = n ∧ a.step = s.pumps[pump].position ∧ s.pumps[pump].state = .stopping ∧
          s.pumps[pump].position = some .stop) ∧
    (∀ d : DeferredAction, ∃ (s : State) (b : List Byte),
      s.portC.sending = some (.own ⟨.reply (some d), b⟩) ∧
        ∀ y ∈ s.portC.own, ∀ e, y.kind ≠ .reply (some e)) :=
  ⟨⟨.c, up, by decide⟩, ⟨.c, ported .c { sending := some (.own plainReply) }, plainReply.bytes, rfl⟩,
    ⟨.c, ported .c { sending := some (.pass [1]) }, [1], rfl⟩,
    ⟨.c, ported .c { sending := some (.own ⟨.alert, [1]⟩) }, [1], rfl⟩,
    ⟨.f1, { pumped .supervised { awaited := some ⟨4, .stop, none⟩ } with
      portF1 := { sending := some (.own ⟨.command 0 3, [1]⟩) } }, 0, 3, [1], ⟨4, .stop, none⟩, by decide⟩,
    ⟨.f1, { pumped .supervised
        { state := .stopping, position := some .stop, awaited := some ⟨3, .stop, some .stop⟩ } with
      portF1 := { sending := some (.own ⟨.command 0 3, [1]⟩) } }, 0, 3, [1], ⟨3, .stop, some .stop⟩, by decide⟩,
    fun d => ⟨ported .c { sending := some (.own ⟨.reply (some d), [1]⟩) }, [1], rfl, by simp [ported]⟩⟩

/-- The telegram that the next witnesses send down: from station 5 to station 10, of no kind that the
part reads. -/
def downward : Telegram := { destination := 10, source := 5, kind := 0x77, items := List.replicate 56 0 }

theorem witness_badAreCountedOthersPassDown :
    (∃ (p : Port) (s : State), (s.port p).state ≠ .up) ∧
    (∃ (p : Port) (bytes : List Byte) (s : State), (s.port p).state = .up ∧ bytes.length < 6) ∧
    (∃ (p : Port) (bytes : List Byte) (s : State), (s.port p).state = .up ∧ 62 < bytes.length) ∧
    (∃ (p : Port) (bytes : List Byte) (s : State), (s.port p).state = .up ∧
      bytes.length = 62 ∧ (bytes.getD 3 0).toNat + 6 ≠ bytes.length) ∧
    (∃ (p : Port) (bytes : List Byte) (s : State), (s.port p).state = .up ∧ bytes.length = 6 ∧
      (bytes.getD 3 0).toNat + 6 = bytes.length ∧
      bytes.drop (bytes.length - 2) ≠ be16 (checkWord (bytes.take (bytes.length - 2)))) ∧
    (∃ (x : Telegram) (s : State), x.items.length ≤ 56 ∧ s.portC.state = .up ∧ x.source ≠ 63 ∧
      x.source ≠ s.switch.partAddress ∧ x.source ≠ s.switch.controlAddress ∧
      x.destination ≠ s.switch.partAddress ∧ x.kind ≠ kindPumpSet) ∧
    ∃ (x : Telegram) (s : State), x.items.length ≤ 56 ∧ s.portC.state = .up ∧ x.source ≠ 63 ∧
      x.source ≠ s.switch.partAddress ∧ x.source = s.switch.controlAddress ∧
      x.destination ≠ s.switch.partAddress ∧ x.kind = kindPumpSet ∧ x.destination ≠ 63 ∧
      s.houseNamed x = none :=
  ⟨⟨.c, State.reset, by decide⟩, ⟨.c, List.replicate 5 0, up, by decide⟩,
    ⟨.c, List.replicate 63 0, up, by decide⟩, ⟨.c, List.replicate 62 0, up, by decide⟩,
    ⟨.f1, List.replicate 6 0, up, by decide +kernel⟩, ⟨downward, up, by decide⟩,
    ⟨{ downward with source := 0, kind := kindPumpSet }, up, by decide +kernel⟩⟩

theorem witness_telegramRoundTrip : ∃ x : Telegram, x.items.length ≤ 56 ∧ ¬ x.items.length < 56 :=
  ⟨downward, by decide⟩

theorem witness_sourcesAreTestedFirst :
    (∃ (x : Telegram) (s : State), x.items.length ≤ 56 ∧ s.portC.state = .up ∧ x.source = 63) ∧
    (∃ (x : Telegram) (s : State), x.items.length ≤ 56 ∧ s.portC.state = .up ∧
      x.source = s.switch.partAddress) ∧
    (∃ (x : Telegram) (s : State), x.items.length ≤ 56 ∧ s.portC.state = .up ∧
      x.destination = s.switch.partAddress ∧ x.source ≠ s.switch.controlAddress) ∧
    (∃ (x : Telegram) (s : State), x.items.length ≤ 56 ∧ s.portC.state = .up ∧
      x.destination = s.switch.partAddress ∧ x.source = s.switch.controlAddress ∧
      isManagementKind x.kind = false) ∧
    (∃ (p : Port) (x : Telegram) (s : State), p ≠ .c ∧ x.items.length ≤ 56 ∧
      (s.port p).state = .up ∧ x.destination = s.switch.partAddress) ∧
    (∃ (x : Telegram) (s : State), x.items.length ≤ 56 ∧ s.portC.state = .up ∧
      x.destination = 63 ∧ x.kind = kindPumpSet) ∧
    (∃ (x : Telegram) (s : State), x.items.length = 4 ∧ s.portC.state = .up ∧
      x.destination ≠ s.switch.partAddress ∧ x.kind = kindPumpSet ∧
      x.source ≠ s.switch.controlAddress ∧ s.houseNamed x ≠ none) ∧
    ∀ kind : Byte, ∃ (p : Port) (x : Telegram) (s : State), p ≠ .c ∧ x.items.length ≤ 56 ∧
      (s.port p).state = .up ∧ x.source ≠ 63 ∧ x.source ≠ s.switch.partAddress ∧
      x.destination ≠ s.switch.partAddress ∧ x.kind = kind :=
  ⟨⟨{ downward with source := 63 }, up, by decide⟩, ⟨{ downward with source := 1 }, up, by decide⟩,
    ⟨{ downward with destination := 1 }, up, by decide⟩,
    ⟨{ downward with destination := 1, source := 0, kind := kindPumpSet }, up, by decide⟩,
    ⟨.f2, { downward with destination := 1 }, up, by decide⟩,
    ⟨{ downward with destination := 63, kind := kindPumpSet }, up, by decide⟩,
    ⟨{ downward with kind := kindPumpSet, items := [0, 1, 0, 0] }, pumped .supervised offPump,
      by decide +kernel⟩,
    fun kind =>
      have h : (Port.f2 ≠ .c ∧ downward.items.length ≤ 56 ∧ (up.port .f2).state = .up ∧
        downward.source ≠ 63 ∧ downward.source ≠ up.switch.partAddress) ∧
        downward.destination ≠ up.switch.partAddress := by decide
      ⟨.f2, { downward with kind := kind }, up, h.1.1, h.1.2.1, h.1.2.2.1, h.1.2.2.2.1,
        h.1.2.2.2.2, h.2, rfl⟩⟩

theorem witness_managementTelegramIsItsCommand :
    (∃ (kind : Byte) (items : List Byte) (s : State),
      requestOf (.partLoadZone 255 (List.replicate 10 ⟨255, 0xFFFFFFFF⟩)) = some (kind, items) ∧
        Instr.wellFormed (.partLoadZone 255 (List.replicate 10 ⟨255, 0xFFFFFFFF⟩)) = true ∧
        s.portC.state = .up ∧ s.switch.controlAddress ≠ 63 ∧
        s.switch.controlAddress ≠ s.switch.partAddress) ∧
    ∃ (kind : Byte) (items : List Byte),
      requestOf (.partLoadProfile 0 (List.replicate 17 ⟨0, 0⟩)) = some (kind, items) ∧
        Instr.wellFormed (.partLoadProfile 0 (List.replicate 17 ⟨0, 0⟩)) = true :=
  ⟨⟨_, _, up, rfl, by decide⟩, ⟨_, _, rfl, by decide⟩⟩

theorem witness_reportsHearTheirHouse :
    (∃ (source : Addr) (h : HouseId) (c : Instr) (s : State),
      c = .levelReport source [] ∧ s.houseAt source = some h) ∧
    ∃ (source : Addr) (c : Instr) (s : State), c = .pumpReport source [] ∧ s.houseAt source = none :=
  ⟨⟨10, 0, .levelReport 10 [], pumped .config {}, rfl, by decide +kernel⟩,
    ⟨11, .pumpReport 11 [], pumped .config {}, rfl, by decide +kernel⟩⟩

theorem witness_levelReadingTaken :
    (∃ item : LevelItem, 16 ≤ item.zone.toNat) ∧
    (∃ (z : ZoneId) (item : LevelItem) (s : State), item.zone.toNat = z.val ∧
      s.zones[z].inUse = false) ∧
    (∃ (z : ZoneId) (source : Addr) (item : LevelItem) (s : State), item.zone.toNat = z.val ∧
      s.zones[z].inUse = true ∧ s.zones[z].reporter ≠ some source) ∧
    (∃ (z : ZoneId) (source : Addr) (item : LevelItem) (s : State), item.zone.toNat = z.val ∧
      s.zones[z].inUse = true ∧ s.zones[z].reporter = some source ∧ item.quality.toNat < 2) ∧
    ∃ (z : ZoneId) (source : Addr) (item : LevelItem) (s : State), item.zone.toNat = z.val ∧
      s.zones[z].inUse = true ∧ s.zones[z].reporter = some source ∧ 2 ≤ item.quality.toNat ∧
      s.zones[z].state ≠ .failed :=
  ⟨⟨⟨16, 0, 0⟩, by decide⟩, ⟨15, ⟨15, 0, 0⟩, up, by decide⟩,
    ⟨0, 11, ⟨0, 0, 0⟩, zoned .config liveZone {}, by decide⟩,
    ⟨0, 10, ⟨0, 0, 1⟩, zoned .config liveZone {}, by decide⟩,
    ⟨0, 10, ⟨0, 0, 2⟩, zoned .config liveZone {}, by decide⟩⟩

theorem witness_pumpReportTaken :
    (∃ (source : Addr) (s : State), s.houseAt source = none) ∧
    (∃ (source : Addr) (h : HouseId) (item : PumpItem) (s : State), s.houseAt source = some h ∧
      4 ≤ item.index.toNat) ∧
    (∃ (source : Addr) (h : HouseId) (p : PumpId) (item : PumpItem) (s : State),
      s.houseAt source = some h ∧ houseOf p = h ∧ localIndex p = item.index.toNat ∧
        s.pumps[p].configured = false) ∧
    ∃ (source : Addr) (h : HouseId) (p : PumpId) (item : PumpItem) (s : State),
      s.houseAt source = some h ∧ houseOf p = h ∧ localIndex p = item.index.toNat ∧
        s.pumps[p].configured = true ∧ item.flags.getLsbD 2 = true ∧ s.pumps[p].tripSeen = false :=
  ⟨⟨11, up, by decide +kernel⟩, ⟨10, 0, ⟨4, 0, 0⟩, pumped .config {}, by decide +kernel⟩,
    ⟨10, 0, 3, ⟨3, 0, 0⟩, pumped .config {}, by decide +kernel⟩,
    ⟨10, 0, 0, ⟨0, 4, 0⟩, pumped .config offPump, by decide +kernel⟩⟩

theorem witness_reportConfirmsStartAndStop :
    (∃ (w : Work) (p : PumpId) (r : PumpReport), w.pumps[p].state = .starting ∧
      w.fullyIssued p = true ∧ r.running = true ∧ r.available = true ∧ r.tripped = false) ∧
    ∃ (w : Work) (p : PumpId) (r : PumpReport), w.pumps[p].state = .stopping ∧
      r.running = false ∧ r.available = true ∧ r.tripped = false :=
  ⟨⟨Work.of (pumped .supervised { offPump with state := .starting, position := some (.point 0) }), 0, ⟨true, true, false, 0, 0⟩,
      by decide +kernel⟩,
    ⟨Work.of (pumped .supervised { offPump with state := .stopping }), 0, ⟨false, true, false, 0, 0⟩,
      by decide +kernel⟩⟩

/-- Case by case; the two elapsed times of case 5 are its boundaries, 20 and the stale limit. -/
theorem witness_trendArithmetic :
    (∃ z : Zone, z.slopeBase = none) ∧
    (∃ (z : Zone) (b : SlopeBase) (t : Count), z.slopeBase = some b ∧
      z.staleLimit * 10 < (t - b.time).toNat) ∧
    (∃ (z : Zone) (b : SlopeBase) (t : Count), z.slopeBase = some b ∧
      (t - b.time).toNat ≤ z.staleLimit * 10 ∧ (t - b.time).toNat < 20) ∧
    (∃ (z : Zone) (b : SlopeBase) (t : Count), z.slopeBase = some b ∧
      (t - b.time).toNat ≤ z.staleLimit * 10 ∧ 20 ≤ (t - b.time).toNat) ∧
    (∃ (z : Zone) (b : SlopeBase) (t : Count), z.slopeBase = some b ∧
      (t - b.time).toNat = z.staleLimit * 10 ∧ 20 ≤ (t - b.time).toNat) ∧
    (∃ level base dt : Nat, 0 < dt ∧ base ≤ level) ∧ ∃ level base dt : Nat, 0 < dt ∧ level ≤ base :=
  ⟨⟨{}, rfl⟩, ⟨{ slopeBase := some ⟨0, 0⟩ }, ⟨0, 0⟩, 3001, by decide⟩,
    ⟨{ slopeBase := some ⟨0, 0⟩ }, ⟨0, 0⟩, 19, by decide⟩,
    ⟨{ slopeBase := some ⟨0, 0⟩ }, ⟨0, 0⟩, 20, by decide⟩,
    ⟨{ slopeBase := some ⟨0, 0⟩ }, ⟨0, 0⟩, 3000, by decide⟩, ⟨5, 5, 1, by decide⟩, ⟨5, 5, 1, by decide⟩⟩

theorem witness_demandEvaluationTaken :
    (∃ w : Work, w.authority.mode ≠ .autonomous) ∧
    (∃ (w : Work) (z : ZoneId), w.authority.mode ≠ .autonomous ∧
      shiftLevel w.zones[z].stopLevel w.offset ≤ shiftLevel w.zones[z].startLevel w.offset) ∧
    (∃ (w : Work) (z : ZoneId) (start stop f : Nat), w.zones[z].forecast = some f ∧ start < stop ∧
      w.zones[z].stepTimer ≠ .idle) ∧
    (∃ (w : Work) (z : ZoneId) (start stop f : Nat), w.zones[z].forecast = some f ∧ start < stop ∧
      w.zones[z].stepTimer = .idle ∧ f < start ∧ w.zones[z].call < w.availableCount z) ∧
    (∃ (w : Work) (z : ZoneId) (start stop f : Nat), w.zones[z].forecast = some f ∧ start < stop ∧
      w.zones[z].stepTimer = .idle ∧ stop < f ∧ 0 < w.zones[z].call) ∧
    ∃ (w : Work) (z : ZoneId) (start stop f : Nat), w.zones[z].forecast = some f ∧ start < stop ∧
      w.zones[z].stepTimer = .idle ∧ f = start :=
  ⟨⟨Work.of up, by decide⟩, ⟨Work.of up, 15, by decide +kernel⟩,
    ⟨Work.of (zoned .autonomous { liveZone with stepTimer := .running 0 1200 } {}), 0, 3000, 5000, 4000,
      by decide⟩,
    ⟨Work.of (zoned .autonomous { liveZone with forecast := some 2999 } offPump), 0, 3000, 5000, 2999,
      by decide +kernel⟩,
    ⟨Work.of (zoned .autonomous { liveZone with forecast := some 5001, call := 1 } offPump), 0, 3000,
      5000, 5001, by decide⟩,
    ⟨Work.of (zoned .autonomous { liveZone with forecast := some 3000 } {}), 0, 3000, 5000, 3000,
      by decide⟩⟩

theorem witness_chargeAndCommandSpeed :
    (∃ x : Pump, x.configured = false) ∧
    (∀ st : PumpState, ∃ x : Pump, x.configured = true ∧ x.state = st) ∧
    (∃ x : Pump, x.configured = true ∧ x.state = .starting ∧ x.ratedLoad = 2000 ∧ x.inrush = 48) ∧
    ∃ (x : Pump) (v n : Nat), x.minSpeed ≤ x.maxSpeed ∧ x.minSpeed ≤ n ∧ n ≤ x.maxSpeed ∧
      32 * n ≤ v * x.speedTrim + 16 ∧ v * x.speedTrim + 16 < 32 * (n + 1) :=
  ⟨⟨{}, rfl⟩, fun st => ⟨{ configured := true, state := st }, rfl, rfl⟩,
    ⟨{ configured := true, state := .starting, ratedLoad := 2000, inrush := 48 }, by decide⟩,
    ⟨{}, 100, 100, by decide⟩⟩

theorem witness_requestsTurnedAway :
    (∃ (p : PumpId) (s : State), s.pumps[p].configured = false) ∧
    (∃ (p : PumpId) (s : State), s.pumps[p].configured = true ∧ s.authority.mode = .config) ∧
    (∃ (p : PumpId) (s : State), s.pumps[p].configured = true ∧ s.authority.mode = .autonomous) ∧
    (∃ (p : PumpId) (s : State), s.pumps[p].configured = true ∧ s.authority.mode = .supervised ∧
      s.pumps[p].state = .queued) ∧
    (∃ (p : PumpId) (s : State), s.pumps[p].configured = true ∧ s.authority.mode = .supervised ∧
      s.pumps[p].state = .off ∧ 16 ≤ s.queue.length) ∧
    (∃ (p : PumpId) (s : State), s.pumps[p].configured = true ∧ s.authority.mode ≠ .config ∧
      s.pumps[p].state = .stopping) ∧
    ∃ (p : PumpId) (s : State), s.pumps[p].configured = true ∧ s.authority.mode ≠ .config ∧
      s.pumps[p].state ≠ .starting ∧ s.pumps[p].state ≠ .stopping ∧ s.pumps[p].state ≠ .running :=
  ⟨⟨47, up, by decide⟩, ⟨0, pumped .config offPump, by decide⟩,
    ⟨0, pumped .autonomous offPump, by decide⟩, ⟨0, queued .supervised {}, by decide⟩,
    ⟨0, { pumped .supervised offPump with queue := List.replicate 16 ⟨1, .control, 1, 0, 0⟩ }, by decide⟩,
    ⟨0, pumped .supervised { offPump with state := .stopping }, by decide⟩,
    ⟨0, pumped .supervised offPump, by decide⟩⟩

theorem witness_stopAndSpeedTaken :
    (∀ st : PumpState, ∃ (p : PumpId) (s : State), s.pumps[p].configured = true ∧
      s.authority.mode = .supervised ∧ s.pumps[p].state = st) ∧
    (∃ (p : PumpId) (s : State), s.pumps[p].configured = true ∧ s.authority.mode = .supervised ∧
      s.pumps[p].state = .running ∧ s.pumps[p].stopPending = false ∧ s.stopAllowed p = true) ∧
    ∃ (p : PumpId) (s : State), s.pumps[p].configured = true ∧ s.authority.mode = .supervised ∧
      s.pumps[p].state = .running ∧ s.pumps[p].stopPending = false ∧ s.stopAllowed p = false :=
  ⟨fun st => ⟨0, pumped .supervised { offPump with state := st }, rfl, rfl, rfl⟩,
    ⟨0, pumped .supervised { offPump with state := .running }, by decide +kernel⟩,
    ⟨0, pumped .supervised { offPump with state := .running, minRunTimer := .running 0 600 },
      by decide +kernel⟩⟩

theorem witness_startJoinsQueue :
    (∃ q : List QueueEntry, q.length = 2 ∧ q.Pairwise fun x y => y.priority ≤ x.priority) ∧
    ∃ (p : PumpId) (s : State), s.pumps[p].configured = true ∧ s.authority.mode = .supervised ∧
      s.pumps[p].state = .off ∧ s.queue.length < 16 ∧ ¬ s.queue.length < 15 :=
  ⟨⟨[⟨1, .control, 3, 0, 0⟩, ⟨2, .control, 1, 0, 0⟩], rfl, by decide⟩,
    ⟨0, { pumped .supervised offPump with queue := List.replicate 15 ⟨1, .control, 1, 0, 0⟩ }, by decide⟩⟩

/-- A budget that one pump's start charge fills exactly, so that the grant is made. -/
theorem witness_grantsKeepBudgetAndSlot :
    ∃ (w : Work) (p : PumpId), w.pumps[p].configured = true ∧ w.pumps[p].state ≠ .starting ∧
      w.evaluateQueue.pumps[p].state = .starting ∧
      w.evaluateQueue.committed 0 = w.evaluateQueue.effectiveLimit 0 ∧
      w.evaluateQueue.committed 0 ≠ w.committed 0 :=
  ⟨Work.of { queued .supervised { offPump with ratedLoad := 8 } with
      feeders := up.feeders.set 0 { limit := 24 } }, 0, by decide +kernel⟩

theorem witness_queueWaitEnds :
    (∃ (p : PumpId) (s : State), ∀ e, s.entryOf p = some e →
      (s.clock.mono - e.entered).toNat < s.general.waitLimit * 10) ∧
    ∃ (p : PumpId) (s : State) (e : QueueEntry), s.entryOf p = some e ∧
      (s.clock.mono - e.entered).toNat = s.general.waitLimit * 10 ∧
      s.pumps[p].state = .queued ∧ s.authority.mode ≠ .autonomous :=
  ⟨⟨0, up, by intro e h; cases h⟩,
    ⟨0, { queued .supervised {} with clock := { up.clock with mono := 3000 } },
      ⟨0, .control, 1, 0, 0⟩, by decide +kernel⟩⟩

/-- The checks of a load of zone 0 in a state, as a zone load makes them. -/
def zoneChecks (s : State) (l : List FieldEntry) : Except Result (Option Zone) :=
  checkFields s.zones[(0 : ZoneId)] 10 (fun c => 3 ≤ c || s.inConfig) Zone.setField
    (fun r => r.startLevel < r.stopLevel) (some l)

theorem witness_zoneLoadCheckedAndTaken :
    (∃ (n : Nat) (l : List FieldEntry), l ≠ [] ∧ layoutOk n l = false) ∧
    (∃ (n : Nat) (may : Nat → Bool) (l : List FieldEntry), l ≠ [] ∧ layoutOk n l = true ∧
      ∃ e ∈ l, may e.code.toNat = false) ∧
    (∃ (r : Zone) (n : Nat) (may : Nat → Bool) (ok : Zone → Bool) (l : List FieldEntry),
      l ≠ [] ∧ layoutOk n l = true ∧ (∀ e ∈ l, may e.code.toNat = true) ∧
        ∀ x, writeFields Zone.setField r l = some x → ok x = false) ∧
    (∃ (r : Zone) (n : Nat) (may : Nat → Bool) (ok : Zone → Bool) (l : List FieldEntry) (x : Zone),
      l ≠ [] ∧ layoutOk n l = true ∧ (∀ e ∈ l, may e.code.toNat = true) ∧
        writeFields Zone.setField r l = some x ∧ ok x = true) ∧
    (∃ index : Byte, 16 ≤ index.toNat) ∧
    zoneChecks (zoned .supervised liveZone {}) [⟨1, 0⟩] = .error .refusedMode ∧
    zoneChecks (zoned .config liveZone {}) [] = .ok none ∧
    (∃ r, zoneChecks (zoned .config liveZone {}) [⟨10, 3⟩] = .ok (some r) ∧ r.inUse = liveZone.inUse ∧
      r.reporter = liveZone.reporter ∧ r.staleLimit = liveZone.staleLimit) ∧
    ∃ r, zoneChecks (zoned .config liveZone {}) [⟨2, 11⟩] = .ok (some r) ∧
      r.reporter ≠ liveZone.reporter :=
  ⟨⟨10, [⟨11, 0⟩], by decide⟩, ⟨10, fun _ => false, [⟨1, 0⟩], by decide⟩,
    ⟨{}, 10, fun _ => true, fun _ => false, [⟨1, 0⟩], by decide, by decide, by decide,
      fun _ _ => rfl⟩,
    ⟨{}, 10, fun _ => true, fun _ => true, [⟨1, 1⟩], { inUse := true }, by decide⟩,
    ⟨16, by decide⟩, by decide +kernel, by decide +kernel,
    ⟨{ liveZone with demandPriority := 3 }, by decide +kernel⟩,
    ⟨{ liveZone with reporter := some 11 }, by decide +kernel⟩⟩

/-- The checks of a load of house 0. -/
def houseChecks (s : State) (l : List FieldEntry) : Except Result (Option House) :=
  checkFields s.houses[(0 : HouseId)] 3 (fun c => c = 3 || s.inConfig) House.setField
    (s.houseConsistent 0) (some l)

theorem witness_houseLoadTaken :
    (∃ index : Byte, 12 ≤ index.toNat) ∧
    houseChecks (pumped .supervised {}) [⟨1, 0⟩] = .error .refusedMode ∧
    houseChecks (pumped .config {}) [] = .ok none ∧
    ∃ r, houseChecks (pumped .config {}) [⟨2, 62⟩] = .ok (some r) ∧
      r.address ≠ (pumped .config {}).houses[(0 : HouseId)].address :=
  ⟨⟨12, by decide⟩, by decide +kernel, by decide +kernel,
    ⟨{ configured := true, address := some 62, comm := .online }, by decide +kernel⟩⟩

/-- The checks of a load of pump 0. -/
def pumpChecks (s : State) (l : List FieldEntry) : Except Result (Option Pump) :=
  checkFields s.pumps[(0 : PumpId)] 16 (fun _ => s.inConfig) Pump.setField
    (fun r => r.minSpeed ≤ r.maxSpeed) (some l)

theorem witness_pumpLoadTaken :
    (∃ index : Byte, 48 ≤ index.toNat) ∧
    pumpChecks (pumped .config {}) [⟨10, 101⟩] = .error .badValue ∧
    pumpChecks (pumped .config {}) [] = .ok none ∧
    (∃ r, pumpChecks (pumped .config { offPump with state := .stopping }) [⟨1, 0⟩] = .ok (some r) ∧
      r.configured = false ∧ r.state = .stopping) ∧
    (∃ r, pumpChecks (pumped .config
        { offPump with state := .locked, lockout := { failToStop := true } }) [⟨1, 0⟩] = .ok (some r) ∧
      r.configured = false ∧ r.state = .locked ∧ r.lockout.isEmpty = false) ∧
    ∃ r, pumpChecks (pumped .config {}) [⟨1, 1⟩] = .ok (some r) ∧ r.configured = true :=
  ⟨⟨48, by decide⟩, by decide +kernel, by decide +kernel,
    ⟨{ offPump with configured := false, state := .stopping }, by decide +kernel⟩,
    ⟨{ offPump with configured := false, state := .locked, lockout := { failToStop := true } },
      by decide +kernel⟩,
    ⟨{ configured := true }, by decide +kernel⟩⟩

theorem witness_simpleRecordLoadsTaken :
    (∃ (p : PumpId) (fields : List FieldEntry) (s : State) (r : Pump),
      checkFields s.pumps[p] 1 (fun _ => true) Pump.setRunTime (fun _ => true) (some fields) =
        .ok (some r) ∧ s.pumps[p].state = .running) ∧
    (∃ (p : PumpId) (fields : List FieldEntry) (s : State) (r : Pump),
      checkFields s.pumps[p] 1 (fun _ => true) Pump.setRunTime (fun _ => true) (some fields) =
        .ok (some r) ∧ s.pumps[p].state ≠ .running) ∧
    (∃ (f : FeederId) (fields : List FieldEntry) (s : State) (r : Feeder),
      checkFields s.feeders[f] 1 (fun _ => true) Feeder.setField (fun _ => true) (some fields) =
        .ok (some r) ∧ r.limit = 4000) ∧
    (∃ (fields : List FieldEntry) (s : State) (a : Addr),
      checkFields s.switch.controlAddress 1 (fun _ => s.inConfig) setControlField
        (fun a => a != s.switch.partAddress) (some fields) = .ok (some a) ∧ a = 62) ∧
    (∃ index : Byte, 8 ≤ index.toNat) ∧
    (∃ s : State, s.authority.mode ≠ .config) ∧
    (∃ (points : List PointBody) (s : State), s.authority.mode = .config ∧ points.length = 13) ∧
    (∃ (points : List PointBody) (s : State), s.authority.mode = .config ∧
      ∃ b ∈ points, 100 < b.speed.toNat ∨ b.dwell.toNat < 1 ∨ 600 < b.dwell.toNat) ∧
    ∃ points : List PointBody, points.length = 12 ∧
      ∀ b ∈ points, b.speed.toNat ≤ 100 ∧ 1 ≤ b.dwell.toNat ∧ b.dwell.toNat ≤ 600 :=
  ⟨⟨0, [⟨1, 7⟩], pumped .supervised { offPump with state := .running },
      { offPump with state := .running, runTime := 7 }, by decide +kernel⟩,
    ⟨0, [⟨1, 7⟩], pumped .supervised offPump, { offPump with runTime := 7 }, by decide +kernel⟩,
    ⟨3, [⟨1, 4000⟩], up, { limit := 4000 }, by decide +kernel⟩,
    ⟨[⟨1, 62⟩], up, 62, by decide +kernel⟩, ⟨8, by decide⟩, ⟨pumped .supervised {}, by decide⟩,
    ⟨List.replicate 13 ⟨0, 1⟩, up, by decide⟩, ⟨[⟨100, 601⟩], up, by decide⟩,
    ⟨List.replicate 12 ⟨100, 600⟩, by decide⟩⟩

/-- A body of an entry: input line 3 trips every pump, latched. -/
def tripAll : InterlockBody :=
  { causeKind := 4, causeObject := 3, level := 0, band := 0, targetKind := 5, targetObject := 0
    action := 0 }

theorem witness_interlockAndInputLoadsTaken :
    (∃ s : State, s.authority.mode ≠ .config) ∧
    (∃ (body : InterlockBody) (s : State), s.authority.mode = .config ∧
      interlockContent body = none) ∧
    (∃ (e : EntryId) (body : InterlockBody) (s : State) (c : InterlockContent),
      s.authority.mode = .config ∧ interlockContent body = some (some c) ∧
        s.interlocks[e].enabled = false) ∧
    (∃ (body : InterlockBody) (s : State), s.authority.mode = .config ∧
      interlockContent body = some none) ∧
    ∃ (l : LineId) (fields : List FieldEntry) (s : State) (r : InputLine),
      checkFields s.inputs[l] 2 (fun _ => s.inConfig) InputLine.setField (fun _ => true)
        (some fields) = .ok (some r) ∧ r.filterTime = 1000 :=
  ⟨⟨pumped .supervised {}, by decide⟩, ⟨{ tripAll with causeKind := 6 }, up, by decide⟩,
    ⟨31, tripAll, up, ⟨.inputActive 3, .all, .tripLatch⟩, by decide⟩,
    ⟨{ tripAll with causeKind := 0 }, up, by decide⟩,
    ⟨3, [⟨2, 1000⟩], up, { filterTime := 1000 }, by decide +kernel⟩⟩

/-- Twelve windows, one for each of the minutes 0 to 11. -/
def fullBank : List Window := (List.range 12).map fun n => ⟨n, 0, 100⟩

theorem witness_planLoadsAndOrdersTaken :
    (∃ s : State, s.authority.mode ≠ .config) ∧
    (∃ body : WindowBody, windowOf body = none) ∧
    (∃ (body : WindowBody) (x : Window) (s : State), windowOf body = some x ∧
      12 < (insertWindow x s.plan.next).length) ∧
    (∃ (body : WindowBody) (x : Window) (s : State), windowOf body = some x ∧
      (insertWindow x s.plan.next).length = 12) ∧
    (∃ (body : WindowBody) (x : Window) (s : State), windowOf body = some x ∧
      s.authority.mode = .config ∧ (insertWindow x s.plan.active).length = 12) ∧
    ∀ st : NextState, ∃ s : State, s.plan.nextState = st :=
  ⟨⟨pumped .supervised {}, by decide⟩, ⟨⟨1440, 0, 50⟩, by decide⟩,
    ⟨⟨1439, 0, 50⟩, ⟨1439, 0, 50⟩, { up with plan := { up.plan with next := fullBank } }, by decide⟩,
    ⟨⟨11, 0xF830, 100⟩, ⟨11, -2000, 100⟩, { up with plan := { up.plan with next := fullBank } },
      by decide⟩,
    ⟨⟨11, 2000, 100⟩, ⟨11, 2000, 100⟩, { up with plan := { up.plan with active := fullBank } },
      by decide⟩,
    fun st => ⟨{ up with plan := { up.plan with nextState := st } }, rfl⟩⟩

theorem witness_windowsKeepOrderAndHold :
    BankOk fullBank ∧ (fullBank.Pairwise fun a b => a.start < b.start) ∧ BankOk [] ∧
      (∃ minute : Nat, ∃ y ∈ fullBank, y.start ≤ minute) ∧
        ∃ (bank : List Window) (minute : Nat), BankOk bank ∧ bank ≠ [] ∧
          ∀ y ∈ bank, minute < y.start :=
  ⟨by unfold BankOk; decide, by decide, by unfold BankOk; decide, ⟨0, ⟨0, 0, 100⟩, by decide⟩,
    ⟨[⟨1, 0, 100⟩], 0, by unfold BankOk; decide, by decide, by decide⟩⟩

theorem witness_routeGeneralPortLoadsTaken :
    (∃ (i : Fin 64) (fields : List FieldEntry) (s : State) (r : Option FieldPort),
      checkFields s.switch.route[i] 1 (fun _ => s.inConfig) setRouteField
        (fun r => r.isNone || (i.val != 63 && i.val != s.switch.partAddress.toNat))
          (some fields) = .ok (some r)) ∧
    (∃ (fields : List FieldEntry) (s : State) (r : General),
      checkFields s.general 7 (fun _ => true) General.setField (fun _ => true) (some fields) =
        .ok (some r) ∧ r.fallbackEnabled = false) ∧
    (∃ (p : Port) (fields : List FieldEntry) (s : State) (r : PortRecord), p ≠ .c ∧
      checkFields (s.port p) 4 (fun _ => true) PortRecord.setField (fun _ => true) (some fields) =
        .ok (some r) ∧ (s.port p).intervals < r.lossCount ∧ r.rate ≠ (s.port p).rate ∧
          (s.port p).holdsBack = false) ∧
    (∃ (p : Port) (fields : List FieldEntry) (s : State) (r : PortRecord), p ≠ .c ∧
      checkFields (s.port p) 4 (fun _ => true) PortRecord.setField (fun _ => true) (some fields) =
        .ok (some r) ∧ (s.port p).intervals + 1 = r.lossCount ∧ r.rate = (s.port p).rate) ∧
    (∃ (fields : List FieldEntry) (s : State) (r : PortRecord),
      checkFields s.portC 4 (fun _ => true) PortRecord.setField (fun _ => true) (some fields) =
        .ok (some r) ∧ r.lossCount = s.portC.lossCount ∧ r.rate = s.portC.rate) ∧
    ∃ (fields : List FieldEntry) (s : State) (r : PortRecord),
      checkFields s.portC 4 (fun _ => true) PortRecord.setField (fun _ => true) (some fields) =
        .ok (some r) ∧ r.lossCount = s.portC.lossCount ∧ r.rate ≠ s.portC.rate ∧
          s.portC.takesOwn = true :=
  ⟨⟨62, [⟨1, 2⟩], up, some .f2, by decide +kernel⟩,
    ⟨[⟨3, 0⟩], up, { fallbackEnabled := false }, by decide +kernel⟩,
    ⟨.f1, [⟨1, 0⟩], up, { state := .up, rate := .r9600 }, by decide +kernel⟩,
    ⟨.f2, [⟨2, 3⟩], ported .f2 { intervals := 255 }, { intervals := 255, lossCount := 256 },
      by decide +kernel⟩,
    ⟨[⟨3, 4⟩], up, { state := .up, counterClass := .allErrors }, by decide +kernel⟩,
    ⟨[⟨1, 3⟩], up, { state := .up, rate := .r76800 }, by decide +kernel⟩⟩

theorem witness_readsAnswerContents :
    (∃ table : Byte, table = 0) ∧ (∃ table : Byte, 19 < table.toNat ∧ ¬ 20 < table.toNat) ∧
    (∃ (table index : Byte) (s : State) (r : Result), s.reading table index = .error r) ∧
    (∃ (table index : Byte) (s : State), (s.reading table index).toOption.isSome = true) ∧
    ∃ s : State, s.portC.takesOwn = true :=
  ⟨⟨0, rfl⟩, ⟨20, by decide⟩, ⟨1, 16, up, .badIndex, rfl⟩, ⟨6, 3, up, by decide +kernel⟩,
    ⟨up, by decide⟩⟩

theorem witness_runValidatesAndEnters :
    (∃ s : State, s.authority.mode ≠ .config) ∧
    (∃ (target : Byte) (s : State), s.authority.mode = .config ∧ target ≠ 1 ∧ target ≠ 2) ∧
    (∃ (target : Byte) (s : State), s.authority.mode = .config ∧ target = 1 ∧
      s.validate.isSome = true) ∧
    ∃ (target : Byte) (s : State), s.authority.mode = .config ∧ target = 2 ∧ s.validate = none :=
  ⟨⟨pumped .supervised {}, by decide⟩, ⟨3, up, by decide⟩,
    ⟨1, pumped .config offPump, by decide +kernel⟩,
    ⟨2, zoned .config liveZone offPump, by decide +kernel⟩⟩

theorem witness_modeOrdersTaken :
    (∀ m : Mode, ∃ s : State, s.authority.mode = m) ∧
    (∃ s : State, s.authority.mode ≠ .config ∧ s.busy = true) ∧
    ∃ s : State, s.authority.mode = .autonomous ∧ s.busy = false ∧ s.queue ≠ [] ∧
      ∀ e ∈ s.queue, s.pumps[e.pump].state = .queued :=
  ⟨fun m => ⟨pumped m {}, rfl⟩,
    ⟨pumped .supervised { offPump with state := .starting }, by decide +kernel⟩,
    ⟨queued .autonomous {}, by decide +kernel⟩⟩

/-- Entry 31 is enabled with its cause present or absent, and pump 0 holds it. -/
def lockedBy (enabled present : Bool) : State :=
  let x := { offPump with
    state := .locked, lockout := { entries := 0x80000000, latched := 0x80000000 } }
  let e : Interlock := ⟨enabled, some ⟨.inputActive 3, .all, .tripLatch⟩, present⟩
  { pumped .supervised x with interlocks := up.interlocks.set 31 e }

theorem witness_clearLockoutTaken :
    (∃ pump : Byte, 48 ≤ pump.toNat) ∧
    (∃ member : Byte, 35 ≤ member.toNat ∧ member.toNat ≤ 254 ∧ ¬ member.toNat < 254) ∧
    (∃ (p : PumpId) (e : EntryId) (s : State),
      s.pumps[p].lockout.entries.getLsbD e.val = false) ∧
    (∃ (p : PumpId) (e : EntryId) (s : State), s.pumps[p].lockout.entries.getLsbD e.val = true ∧
      s.interlocks[e].enabled = true ∧ s.interlocks[e].present = true) ∧
    (∃ (p : PumpId) (e : EntryId) (s : State), s.pumps[p].lockout.entries.getLsbD e.val = true ∧
      s.interlocks[e].enabled = false) ∧
    (∃ (p : PumpId) (e : EntryId) (s : State), s.pumps[p].lockout.entries.getLsbD e.val = true ∧
      s.interlocks[e].enabled = true ∧ s.interlocks[e].present = false) ∧
    (∃ member : Byte, member = 32 ∨ member = 33 ∨ member = 34) ∧ ∃ member : Byte, member = 255 :=
  ⟨⟨48, by decide⟩, ⟨254, by decide⟩, ⟨47, 31, up, by decide⟩, ⟨0, 31, lockedBy true true, by decide⟩,
    ⟨0, 31, lockedBy false false, by decide⟩, ⟨0, 31, lockedBy true false, by decide⟩,
    ⟨34, by decide⟩, ⟨255, rfl⟩⟩

/-- Entry 0, disabled, inhibits every pump while line 3 is active. -/
def inhibiting : State :=
  let e : Interlock := ⟨false, some ⟨.inputActive 3, .all, .inhibit⟩, false⟩
  { up with interlocks := up.interlocks.set 0 e }

theorem witness_enableInterlockTaken :
    (∃ entry : Byte, 32 ≤ entry.toNat) ∧ (∃ request : Byte, 2 ≤ request.toNat) ∧
    (∃ (e : EntryId) (s : State), s.interlocks[e].enabled = false ∧
      s.interlocks[e].content = none) ∧
    (∃ (e : EntryId) (c : InterlockContent) (s : State), s.interlocks[e].enabled = false ∧
      s.interlocks[e].content = some c ∧ c.action = .inhibit ∧ s.causeHolds c.cause false = true) ∧
    (∃ (e : EntryId) (c : InterlockContent) (s : State), s.interlocks[e].enabled = false ∧
      s.interlocks[e].content = some c ∧ c.action ≠ .inhibit ∧ s.causeHolds c.cause false = true) ∧
    ∃ (e : EntryId) (s : State), s.interlocks[e].enabled = true :=
  ⟨⟨32, by decide⟩, ⟨2, by decide⟩, ⟨31, up, by decide⟩,
    ⟨0, ⟨.inputActive 3, .all, .inhibit⟩,
      inhibiting, by decide +kernel⟩,
    ⟨31, ⟨.inputActive 3, .all, .tripLatch⟩, lockedBy false false, by decide +kernel⟩,
    ⟨31, lockedBy true true, by decide⟩⟩

theorem witness_clearFlagsTaken :
    (∃ kind : Byte, kind = 0) ∧ (∃ kind : Byte, 17 ≤ kind.toNat ∧ kind ≠ 255 ∧ ¬ kind.toNat < 254) ∧
    (∃ kind object : Byte, kind.toNat = 6 ∧ 48 ≤ object.toNat) ∧
    (∃ kind object : Byte, kind.toNat = 9 ∧ 16 ≤ object.toNat) ∧
    (∃ kind object : Byte, kind.toNat = 11 ∧ portOf object = none) ∧
    (∃ kind object : Byte, kind.toNat = 16 ∧ object ≠ 0) ∧
    (∃ kind object : Byte, kind ≠ 255 ∧ flagNamed kind object = .ok (.zone .thresholdCollapse 15)) ∧
    (∃ kind object : Byte, kind ≠ 255 ∧ flagNamed kind object = .ok (.part .rejectedTelegrams)) ∧
    ∃ kind : Byte, kind = 255 :=
  ⟨⟨0, rfl⟩, ⟨254, by decide⟩, ⟨6, 48, by decide⟩, ⟨9, 16, by decide⟩, ⟨11, 3, by decide⟩,
    ⟨16, 1, by decide⟩, ⟨9, 15, by decide⟩, ⟨16, 0, by decide⟩, ⟨255, rfl⟩⟩

theorem witness_counterAndErrorOrdersTaken :
    (∃ port : Byte, portOf port = none) ∧ ∀ p : Port, ∃ port : Byte, portOf port = some p :=
  ⟨⟨3, by decide⟩, fun p => by cases p; exacts [⟨0, rfl⟩, ⟨1, rfl⟩, ⟨2, rfl⟩]⟩

/-- Settings of a test of one second. -/
def oneSecond : TestBody := { pattern := 2, user := 0xABCDEF, invert := 1, duration := 1 }

theorem witness_portModeTaken :
    (∃ mode : Byte, 2 ≤ mode.toNat) ∧
    (∃ port mode : Byte, mode.toNat ≤ 1 ∧ portOf port = none) ∧
    (∃ (port : Byte) (p : Port) (s : State), portOf port = some p ∧ (s.port p).state ≠ .test) ∧
    (∃ (port : Byte) (p : Port) (s : State), portOf port = some p ∧ (s.port p).state = .test ∧
      (s.port p).holdsBack = false) ∧
    (∃ b : TestBody, testSettingsOf b = none) ∧
    (∃ (b : TestBody) (x : TestSettings), testSettingsOf b = some x ∧ x.duration = 0) ∧
    (∃ (b : TestBody) (x : TestSettings) (s : State), testSettingsOf b = some x ∧ x.duration ≠ 0 ∧
      s.portC.takesOwn = true) ∧
    ∃ (port : Byte) (p : Port) (b : TestBody) (x : TestSettings) (s : State), portOf port = some p ∧
      testSettingsOf b = some x ∧ p ≠ .c ∧ (s.port p).holdsBack = false ∧ (s.port p).state ≠ .test :=
  ⟨⟨2, by decide⟩, ⟨3, 1, by decide⟩, ⟨0, .c, up, by decide⟩,
    ⟨1, .f1, ported .f1 { state := .test }, by decide⟩, ⟨{ oneSecond with pattern := 3 }, by decide⟩,
    ⟨{ oneSecond with duration := 0 }, ⟨.user, 0xABCDEF, true, 0⟩, by decide⟩,
    ⟨oneSecond, ⟨.user, 0xABCDEF, true, 1⟩, up, by decide⟩,
    ⟨2, .f2, oneSecond, ⟨.user, 0xABCDEF, true, 1⟩, up, by decide⟩⟩

theorem witness_portResetAndTestExpiryTaken :
    (∃ port : Byte, portOf port = none) ∧
    (∃ (port : Byte) (s : State), portOf port = some .c ∧ s.portC.takesOwn = true) ∧
    (∃ (port : Byte) (p : Port) (s : State), portOf port = some p ∧ p ≠ .c ∧
      (s.port p).holdsBack = false ∧ s.events.isLatched (.port .loss p) = false) ∧
    (∃ (p : Port) (s : State), (s.port p).state ≠ .test) ∧
    (∃ (p : Port) (s : State), (s.port p).testTimer.due s.now = false) ∧
    ∃ (p : Port) (s : State), (s.port p).state = .test ∧ (s.port p).testTimer.due s.now = true ∧
      (s.port p).holdsBack = false :=
  ⟨⟨3, by decide⟩, ⟨0, up, by decide⟩, ⟨2, .f2, up, by decide⟩, ⟨.c, up, by decide⟩,
    ⟨.c, up, by decide⟩, ⟨.c, ported .c { state := .test, testTimer := .running 0 0 }, by decide⟩⟩

theorem witness_staleAndSilenceExpiriesTaken :
    (∃ (z : ZoneId) (s : State), s.zones[z].staleTimer.due s.now = false) ∧
    (∃ (z : ZoneId) (s : State), s.zones[z].staleTimer.due s.now = true ∧ s.now = 3000) ∧
    (∃ (h : HouseId) (s : State), s.houses[h].silenceTimer.due s.now = false) ∧
    ∃ (h : HouseId) (s : State), s.houses[h].silenceTimer.due s.now = true ∧
      s.houses[h].configured = true :=
  ⟨⟨15, up, by decide⟩,
    ⟨0, { zoned .config liveZone {} with clock := { up.clock with mono := 3000 } }, by decide⟩,
    ⟨11, up, by decide⟩,
    ⟨0, { up with houses := up.houses.set 0 { configured := true, silenceTimer := .running 0 0 } },
      by decide⟩⟩

/-- A zone whose step timer is due. -/
def steppingZone : Zone := { liveZone with stepTimer := .running 0 0 }

theorem witness_stepTimerExpiryTaken :
    (∃ (z : ZoneId) (s : State), s.zones[z].stepTimer.due s.now = false) ∧
    (∃ (z : ZoneId) (s : State), s.zones[z].stepTimer.due s.now = true ∧
      s.zones[z].state ≠ .live) ∧
    (∃ (z : ZoneId) (s : State), s.zones[z].stepTimer.due s.now = true ∧ s.zones[z].state = .live ∧
      shiftLevel s.zones[z].startLevel s.offset < shiftLevel s.zones[z].stopLevel s.offset ∧
      s.authority.mode ≠ .autonomous) ∧
    (∃ (z : ZoneId) (s : State), s.zones[z].stepTimer.due s.now = true ∧ s.zones[z].state = .live ∧
      shiftLevel s.zones[z].stopLevel s.offset ≤ shiftLevel s.zones[z].startLevel s.offset) ∧
    ∃ (z : ZoneId) (s : State), s.zones[z].stepTimer.due s.now = true ∧ s.zones[z].state = .live ∧
      s.authority.mode = .autonomous ∧ s.zones[z].forecast = some 2999 ∧
      shiftLevel s.zones[z].startLevel s.offset < shiftLevel s.zones[z].stopLevel s.offset ∧
      s.zones[z].call < s.availableCount z :=
  ⟨⟨15, up, by decide⟩, ⟨0, zoned .autonomous { steppingZone with state := .stale } {}, by decide⟩,
    ⟨0, zoned .supervised steppingZone {}, by decide +kernel⟩,
    ⟨0, zoned .supervised { steppingZone with startLevel := 5000 } {}, by decide +kernel⟩,
    ⟨0, zoned .autonomous { steppingZone with forecast := some 2999 } offPump, by decide +kernel⟩⟩

/-- Pump 0 at point n of profile 0, of two points, its dwell over. -/
def dwelling (st : PumpState) (n : Nat) : State :=
  { pumped .supervised { offPump with
      state := st, startProfile := some 0, stopProfile := some 0, position := some (.point n)
      dwellTimer := .running 0 0 } with
    profiles := up.profiles.set 0 [⟨50, 600⟩, ⟨80, 600⟩] }

theorem witness_dwellExpiryTaken :
    (∃ (p : PumpId) (s : State), s.pumps[p].dwellTimer.due s.now = false) ∧
    (∀ st : PumpState, ∃ (p : PumpId) (s : State), s.pumps[p].dwellTimer.due s.now = true ∧
      s.pumps[p].position = some (.point 0) ∧ s.pumps[p].state = st ∧
      (s.profilePoints s.pumps[p].startProfile)[0 + 1]? = some ⟨80, 600⟩ ∧
      (s.profilePoints s.pumps[p].stopProfile)[0 + 1]? = some ⟨80, 600⟩) ∧
    ∃ (p : PumpId) (s : State), s.pumps[p].dwellTimer.due s.now = true ∧
      s.pumps[p].position = some (.point 1) ∧ s.pumps[p].state = .stopping ∧
      (s.profilePoints s.pumps[p].stopProfile)[1 + 1]? = none :=
  ⟨⟨47, up, by decide⟩, fun st => ⟨0, dwelling st 0, rfl, rfl, rfl, rfl, rfl⟩,
    ⟨0, dwelling .stopping 1, by decide⟩⟩

theorem witness_confirmExpiriesTaken :
    (∃ (p : PumpId) (s : State), s.pumps[p].confirmTimer.due s.now = false) ∧
    ∀ (st : PumpState) (resent : Bool), ∃ (p : PumpId) (s : State),
      s.pumps[p].confirmTimer.due s.now = true ∧ s.pumps[p].state = st ∧
        s.pumps[p].resendDone = resent :=
  ⟨⟨47, up, by decide⟩, fun st resent =>
    ⟨0, pumped .supervised { offPump with
      state := st, resendDone := resent, confirmTimer := .running 0 0 }, rfl, rfl, rfl⟩⟩

theorem witness_restAndSettleExpiriesTaken :
    (∃ (p : PumpId) (s : State), s.pumps[p].minRunTimer.due s.now = false) ∧
    (∃ (p : PumpId) (s : State), s.pumps[p].minOffTimer.due s.now = false) ∧
    (∃ (z : ZoneId) (s : State), s.zones[z].settleTimer.due s.now = false) ∧
    (∃ (p : PumpId) (s : State), s.pumps[p].minRunTimer.due s.now = true ∧
      s.pumps[p].state = .running ∧ s.pumps[p].stopPending = true ∧
      s.zones[s.pumps[p].deliveryZone].settleTimer = .idle ∧
      s.zoneHolds p [.starting, .stopping] = false) ∧
    (∃ (p : PumpId) (s : State), s.pumps[p].minOffTimer.due s.now = true) ∧
    ∃ (z : ZoneId) (s : State), s.zones[z].settleTimer.due s.now = true :=
  ⟨⟨47, up, by decide⟩, ⟨47, up, by decide⟩, ⟨15, up, by decide⟩,
    ⟨0, pumped .supervised { offPump with
      state := .running, stopPending := true, minRunTimer := .running 0 0 }, by decide +kernel⟩,
    ⟨0, pumped .supervised { offPump with minOffTimer := .running 0 0 }, by decide⟩,
    ⟨0, zoned .supervised { liveZone with settleTimer := .running 0 0 } {}, by decide⟩⟩

theorem witness_authorityAndAlertExpiriesTaken :
    (∃ s : State, s.authority.silenceTimer.due s.now = false ∧
      s.authority.fallbackTimer.due s.now = false ∧ s.events.holdoff.due s.now = false) ∧
    (∃ s : State, s.authority.silenceTimer.due s.now = true ∧ s.authority.present = true ∧
      s.authority.mode = .supervised ∧ s.general.fallbackEnabled = true ∧
      s.authority.fallbackTimer = .idle) ∧
    (∃ s : State, s.authority.fallbackTimer.due s.now = true) ∧
    ∃ s : State, s.events.holdoff.due s.now = true ∧ s.events.alertPending = true ∧
      s.events.alertOutstanding = false ∧ s.alertFlags ≠ [] ∧ s.portC.takesOwn = true :=
  ⟨⟨up, by decide⟩,
    ⟨{ up with authority := { mode := .supervised, present := true, silenceTimer := .running 0 0 } },
      by decide⟩,
    ⟨{ up with authority := { mode := .supervised, fallbackTimer := .running 0 0 } }, by decide⟩,
    ⟨{ up with events := { latched := [⟨.part .planKept, 0⟩], alertPending := true,
                           holdoff := .running 0 0 } }, by decide +kernel⟩⟩

/-- A queue of one entry keeps every invariant that the steps are stated to keep. -/
def soundState : State :=
  { queued .supervised {} with plan := { up.plan with next := fullBank, nextState := .complete } }

theorem witness_stepsKeepTheirInvariants :
    PlanOk soundState.plan ∧ ClockOk soundState.clock ∧ CountsOk soundState ∧ QueueOk soundState ∧
      DemandPrioritiesOk soundState ∧ PortsOk soundState ∧ LockoutsOk (lockedBy true true) :=
  ⟨by unfold PlanOk BankOk; decide +kernel, by unfold ClockOk; decide +kernel,
    by unfold CountsOk; decide +kernel, by unfold QueueOk; decide +kernel,
    by unfold DemandPrioritiesOk; decide +kernel, by intro p; unfold PortOk; cases p <;> decide +kernel,
    by unfold LockoutsOk LockoutOk; decide +kernel⟩

theorem witness_runModesKeepConfiguration :
    ∃ (c : Instr) (s t : State), s.authority.mode ≠ .config ∧ (∀ straps, c ≠ .coldReset straps) ∧
      exec c s = .next t :=
  ⟨.restart, queued .supervised {}, taken .restart (queued .supervised {}), by decide,
    (fun _ h => Instr.noConfusion h), rfl⟩

/-! ### Witnesses of the further clauses -/

/-- Entry 0 is enabled, watches a cause, and inhibits every pump, its cause present or not. -/
def watched (s : State) (cause : Cause) (present : Bool) : State :=
  { s with interlocks := s.interlocks.set 0 ⟨true, some ⟨cause, .all, .inhibit⟩, present⟩ }

theorem witness_inputLevelChangeMovesEntries :
    ∃ (l : LineId) (level : PinLevel) (e : EntryId) (c : InterlockContent) (s : State),
      (taken (.inputLevelChange l level) s).inputs[l].isActive ≠ s.inputs[l].isActive ∧
        s.interlocks[e].content = some c ∧ s.interlocks[e].enabled = true ∧
          c.cause = .inputActive l :=
  ⟨3, .low, 0, ⟨.inputActive 3, .all, .inhibit⟩,
    watched
      { up with
        inputs := up.inputs.set 3
          { activeLevel := .low, lineLevel := .high, accepted := some .high, filterTime := 0 } }
      (.inputActive 3) false, by decide +kernel⟩

theorem witness_receiverPhases (phase : ReceiverPhase) :
    ∃ (p : Port) (s : State), (s.port p).state = .up ∧ (s.port p).receiver.phase = phase :=
  ⟨.f1, ported .f1 { state := .up, receiver := { phase := phase } }, rfl, rfl⟩

theorem witness_checkerFollowsGenerator :
    (∃ (t : TestSettings) (n : Nat), t.pattern ≠ .user ∧ n ≤ t.pattern.stages + 32 ∧
      n = t.pattern.stages + 32 ∧ n = 47) ∧ ∃ c : Checker, c.state = .inSync :=
  ⟨⟨⟨.prbs15, 0, false, 0⟩, 47, by decide⟩, ⟨{ state := .inSync }, rfl⟩⟩

/-- Pump 0 at a position of profile 0, of two points, its telegram of serial 3 in transmission. -/
def completing (x : Pump) : State :=
  { pumped .supervised { x with startProfile := some 0, stopProfile := some 0 } with
    portF1 := { state := .up, sending := some (.own ⟨.command 0 3, [1]⟩) }
    profiles := up.profiles.set 0 [⟨50, 600⟩, ⟨80, 600⟩] }

/-- A pump reported running and offered, at a position, awaiting the telegram issued for it. -/
def awaiting (st : PumpState) (x : Option Position) : Pump :=
  { offPump with
    state := st, position := x, awaited := some ⟨3, .stop, x⟩
    report := some ⟨true, true, false, 0, 0⟩ }

theorem witness_commandCompletions :
    (∃ (s : State) (p : PumpId), s.portF1.sending = some (.own ⟨.command p 3, [1]⟩) ∧
      s.pumps[p].awaited = none) ∧
    (∀ (st : PumpState) (x : Option Position), ∃ (s : State) (p : PumpId) (a : Issued),
      s.portF1.sending = some (.own ⟨.command p 3, [1]⟩) ∧ s.pumps[p].awaited = some a ∧
        a.serial = 3 ∧ a.step = s.pumps[p].position ∧ s.pumps[p].state = st ∧
          s.pumps[p].position = x ∧ s.pumps[p].issuePending = none ∧ s.pumps[p].offered = true ∧
            s.pumps[p].reportsRunning = true ∧ 0 < s.pumps[p].minRun) ∧
    (∃ (s : State) (p : PumpId) (a : Issued), s.pumps[p].awaited = some a ∧ a.serial = 3 ∧
      a.step ≠ s.pumps[p].position) ∧
    (∃ (s : State) (p : PumpId) (a : Issued) (k : Nat) (pt : ProfilePoint),
      s.pumps[p].awaited = some a ∧ a.step = s.pumps[p].position ∧ s.pumps[p].state = .starting ∧
        s.pumps[p].position = some (.point k) ∧
          (s.profilePoints s.pumps[p].startProfile)[k]? = some pt ∧
            k + 1 < (s.profilePoints s.pumps[p].startProfile).length) ∧
    (∃ (s : State) (p : PumpId) (a : Issued) (k : Nat), s.pumps[p].awaited = some a ∧
      a.step = s.pumps[p].position ∧ s.pumps[p].state = .starting ∧
        s.pumps[p].position = some (.point k) ∧
          (s.profilePoints s.pumps[p].startProfile).length ≤ k + 1 ∧
            s.pumps[p].issuePending ≠ none) ∧
    ∃ (s : State) (p : PumpId) (a : Issued) (k : Nat) (pt : ProfilePoint),
      s.pumps[p].awaited = some a ∧ a.step = s.pumps[p].position ∧ s.pumps[p].state = .stopping ∧
        s.pumps[p].position = some (.point k) ∧
          (s.profilePoints s.pumps[p].stopProfile)[k]? = some pt :=
  ⟨⟨completing offPump, 0, by decide⟩,
    fun st x => ⟨completing { awaiting st x with minRun := 60 }, 0, ⟨3, .stop, x⟩, rfl, rfl, rfl, rfl,
      rfl, rfl, rfl, rfl, rfl, Nat.zero_lt_succ 59⟩,
    ⟨completing { awaiting .stopping (some .stop) with awaited := some ⟨3, .stop, none⟩ }, 0,
      ⟨3, .stop, none⟩, by decide⟩,
    ⟨completing (awaiting .starting (some (.point 0))), 0, ⟨3, .stop, some (.point 0)⟩, 0, ⟨50, 600⟩,
      by decide⟩,
    ⟨completing { awaiting .starting (some (.point 1)) with issuePending := some .stop }, 0,
      ⟨3, .stop, some (.point 1)⟩, 1, by decide⟩,
    ⟨completing (awaiting .stopping (some (.point 1))), 0, ⟨3, .stop, some (.point 1)⟩, 1, ⟨80, 600⟩,
      by decide⟩⟩

theorem witness_lineCodeRoundTrip :
    (∃ bytes : List Byte, bytes.length ≤ 62 ∧ ¬ bytes.length < 62) ∧
      ∃ l : List (List Byte), l.length = 2 ∧ ∀ bytes ∈ l, bytes.length ≤ 62 :=
  ⟨⟨List.replicate 62 0, by decide⟩, ⟨[[0], [255, 1]], by decide⟩⟩

theorem witness_interceptedSettingsAreRequests :
    (∀ command : Byte, ∃ (p : PumpId) (a : Addr) (i : SetItem) (s : State), s.portC.state = .up ∧
      s.switch.controlAddress ≠ 63 ∧ s.switch.controlAddress ≠ s.switch.partAddress ∧ a ≠ 63 ∧
        a ≠ s.switch.partAddress ∧ s.houseAt a = some (houseOf p) ∧
          i.index.toNat = localIndex p ∧ s.pumps[p].configured = true ∧ i.command = command) ∧
    (∃ rest : List SetItem, rest.length ≤ 13 ∧ ¬ rest.length < 13) ∧
    (∃ (s : State) (j : SetItem), s.pumpNamed (houseOf 0) j.index = none) ∧
    ∃ (s : State) (j : SetItem), s.pumpNamed (houseOf 0) j.index ≠ none ∧ 1 ≤ j.command.toNat ∧
      j.command.toNat ≤ 3 ∧ s.authority.mode = .config :=
  ⟨fun command =>
      have h : up.portC.state = .up ∧ up.switch.controlAddress ≠ 63 ∧
        up.switch.controlAddress ≠ up.switch.partAddress ∧ (10 : Addr) ≠ 63 ∧
          (10 : Addr) ≠ up.switch.partAddress := by decide
      have h2 : (pumped .supervised offPump).houseAt 10 = some (houseOf 0) := by decide +kernel
      ⟨0, 10, ⟨0, command, 50, 1⟩, pumped .supervised offPump, h.1, h.2.1, h.2.2.1, h.2.2.2.1,
        h.2.2.2.2, h2, rfl, rfl, rfl⟩,
    ⟨List.replicate 13 ⟨0, 1, 0, 0⟩, by decide⟩, ⟨pumped .config offPump, ⟨1, 1, 0, 0⟩, by decide +kernel⟩,
    ⟨pumped .config offPump, ⟨0, 3, 0, 0⟩, by decide +kernel⟩⟩

theorem witness_reportsMoveHouseEntries :
    ∃ (source : Addr) (h : HouseId) (e : EntryId) (c : InterlockContent) (s : State),
      s.interlocks[e].content = some c ∧ s.interlocks[e].enabled = true ∧
        c.cause = .houseNotOnline h ∧ s.houses[h].comm ≠ .online ∧
          (taken (.levelReport source []) s).houses[h].comm = .online :=
  ⟨10, 0, 0, ⟨.houseNotOnline 0, .all, .inhibit⟩,
    watched
      { pumped .config {} with
        houses := up.houses.set 0 { configured := true, address := some 10 } }
      (.houseNotOnline 0) true, by decide +kernel⟩

theorem witness_levelCausesTaken (cause : Cause) (st : ZoneState) (good : Bool) :
    ∃ (item : LevelItem) (s : State) (z : ZoneId) (e : EntryId) (c : InterlockContent),
      item.zone.toNat = z.val ∧ s.zones[z].inUse = true ∧ s.zones[z].reporter = some 10 ∧
        s.interlocks[e].content = some c ∧ s.interlocks[e].enabled = true ∧ c.cause = cause ∧
          s.zones[z].state = st ∧ s.zones[z].level ≠ some (min 32000 item.level.toNat) ∧
            item.quality.toNat = if good then 1 else 2 :=
  ⟨⟨0, 100, if good then 1 else 2⟩, watched (zoned .config { liveZone with state := st } {}) cause false,
    0, 0, ⟨cause, .all, .inhibit⟩, rfl, rfl, rfl, rfl, rfl, rfl, rfl, nofun, by cases good <;> rfl⟩

theorem witness_reportTakenByState (st : PumpState) (r : PumpReport) (seen : Bool) (l : Lockout) :
    ∃ (w : Work) (p : PumpId) (x : Pump),
      x = { w.pumps[p] with report := some r, tripSeen := r.tripped } ∧ x.state = st ∧
        w.pumps[p].tripSeen = seen ∧ x.lockout = l :=
  ⟨Work.of (pumped .supervised { offPump with state := st, tripSeen := seen, lockout := l }), 0, _,
    rfl, rfl, rfl, rfl⟩

theorem witness_evaluationInAutonomous :
    (∃ (w : Work) (z : ZoneId) (level f : Nat), w.authority.mode = .autonomous ∧
      shiftLevel w.zones[z].startLevel w.offset < shiftLevel w.zones[z].stopLevel w.offset ∧
        f = forecastOf level (slopeDecision w.zones[z] level .good 0).2 w.zones[z].horizon ∧
          w.zones[z].stepTimer = .idle ∧ f < shiftLevel w.zones[z].startLevel w.offset ∧
            min w.zones[z].call (w.availableCount z) < w.availableCount z) ∧
    (∃ (w : Work) (z : ZoneId) (level f : Nat), w.authority.mode = .autonomous ∧
      shiftLevel w.zones[z].startLevel w.offset < shiftLevel w.zones[z].stopLevel w.offset ∧
        f = forecastOf level (slopeDecision w.zones[z] level .good 0).2 w.zones[z].horizon ∧
          w.zones[z].stepTimer = .idle ∧ shiftLevel w.zones[z].stopLevel w.offset < f ∧
            0 < min w.zones[z].call (w.availableCount z)) ∧
    ∃ (w : Work) (z : ZoneId), w.authority.mode = .autonomous ∧
      shiftLevel w.zones[z].startLevel w.offset < shiftLevel w.zones[z].stopLevel w.offset ∧
        w.zones[z].stepTimer ≠ .idle ∧ w.availableCount z < w.zones[z].call :=
  ⟨⟨Work.of (zoned .autonomous liveZone offPump), 0, 2999, 2999, by decide +kernel⟩,
    ⟨Work.of (zoned .autonomous { liveZone with call := 2 } offPump), 0, 5001, 5001,
      by decide +kernel⟩,
    ⟨Work.of (zoned .autonomous { liveZone with call := 2, stepTimer := .running 0 1200 } offPump), 0,
      by decide +kernel⟩⟩

theorem witness_reconciliationTaken :
    (∃ (w : Work) (z : ZoneId) (p : PumpId), w.activeCount z + 1 = w.zones[z].call ∧
      w.startCandidate z = some p ∧ w.queue.length < 16) ∧
    (∃ (w : Work) (z : ZoneId) (p : PumpId), w.activeCount z + 1 = w.zones[z].call ∧
      w.startCandidate z = some p ∧ 16 ≤ w.queue.length) ∧
    (∃ (w : Work) (z : ZoneId), w.activeCount z + 1 = w.zones[z].call ∧
      w.startCandidate z = none) ∧
    (∃ (w : Work) (z : ZoneId), w.activeCount z = w.zones[z].call) ∧
    (∃ (w : Work) (z : ZoneId) (p : PumpId), w.zones[z].call + 1 = w.activeCount z ∧
      (w.queue.filter fun e => w.supplies z e.pump).getLast?.map QueueEntry.pump = some p ∧
        w.pumps[p].state = .queued) ∧
    ∃ (w : Work) (z : ZoneId) (p : PumpId), w.zones[z].call + 1 = w.activeCount z ∧
      (∀ e ∈ w.queue, w.supplies z e.pump = false) ∧ w.sheds z p :=
  ⟨⟨Work.of (zoned .autonomous { liveZone with call := 1 } offPump), 0, 0, by decide +kernel⟩,
    ⟨Work.of { zoned .autonomous { liveZone with call := 1 } offPump with
      queue := List.replicate 16 ⟨1, .control, 1, 0, 0⟩ }, 0, 0, by decide +kernel⟩,
    ⟨Work.of (zoned .autonomous { liveZone with call := 1 } {}), 0, by decide +kernel⟩,
    ⟨Work.of (zoned .autonomous liveZone {}), 0, by decide +kernel⟩,
    ⟨Work.of { queued .autonomous {} with zones := up.zones.set 0 liveZone }, 0, 0,
      by decide +kernel⟩,
    ⟨Work.of (zoned .autonomous liveZone { offPump with state := .running }), 0, 0,
      by unfold State.sheds; decide +kernel⟩⟩

/-- Pumps 0 and 1 are QUEUED in that order for zones 0 and 1: 60 kW of charge on feeder 0, and 3 kW on a
feeder; each feeder's limit is 30 kW. -/
def twoQueued (feeder : FeederId) (bypass : Nat) : State :=
  let x : Pump :=
    { offPump with state := .queued, startProfile := none, ratedLoad := 30, inrush := 16, minOff := 0 }
  { pumped .supervised x with
    pumps := (up.pumps.set 0 x).set 1 { x with deliveryZone := 1, ratedLoad := 1, feeder := feeder }
    feeders := (up.feeders.set 0 { limit := 30 }).set 1 { limit := 30 }
    queue := [⟨0, .control, 1, 0, bypass⟩, ⟨1, .control, 1, 0, 0⟩] }

theorem witness_grantsAndBypasses :
    (∃ (w : Work) (e : QueueEntry) (rest : List QueueEntry), w.queue = e :: rest ∧
      w.eligible e.pump ∧ w.budgetHolds e.pump) ∧
    (∃ (w : Work) (a b : QueueEntry), w.queue = [a, b] ∧ a.pump ≠ b.pump ∧ w.eligible a.pump ∧
      ¬w.budgetHolds a.pump ∧ w.eligible b.pump ∧ w.budgetHolds b.pump ∧
        w.pumps[a.pump].feeder = w.pumps[b.pump].feeder ∧ a.bypass + 1 = w.general.bypassLimit) ∧
    (∃ (w : Work) (a b : QueueEntry), w.queue = [a, b] ∧ a.pump ≠ b.pump ∧ w.eligible a.pump ∧
      ¬w.budgetHolds a.pump ∧ w.eligible b.pump ∧ w.budgetHolds b.pump ∧
        w.pumps[a.pump].feeder = w.pumps[b.pump].feeder ∧ a.bypass = w.general.bypassLimit) ∧
    ∃ (w : Work) (a b : QueueEntry), w.queue = [a, b] ∧ a.pump ≠ b.pump ∧ w.eligible a.pump ∧
      ¬w.budgetHolds a.pump ∧ w.eligible b.pump ∧ w.budgetHolds b.pump ∧
        w.pumps[a.pump].feeder ≠ w.pumps[b.pump].feeder :=
  ⟨⟨Work.of { queued .supervised { offPump with ratedLoad := 8 } with
      feeders := up.feeders.set 0 { limit := 24 } }, ⟨0, .control, 1, 0, 0⟩, [],
      by unfold State.eligible State.budgetHolds; decide +kernel⟩,
    ⟨Work.of (twoQueued 0 3), ⟨0, .control, 1, 0, 3⟩, ⟨1, .control, 1, 0, 0⟩,
      by unfold State.eligible State.budgetHolds; decide +kernel⟩,
    ⟨Work.of (twoQueued 0 4), ⟨0, .control, 1, 0, 4⟩, ⟨1, .control, 1, 0, 0⟩,
      by unfold State.eligible State.budgetHolds; decide +kernel⟩,
    ⟨Work.of (twoQueued 1 4), ⟨0, .control, 1, 0, 4⟩, ⟨1, .control, 1, 0, 0⟩,
      by unfold State.eligible State.budgetHolds; decide +kernel⟩⟩

theorem witness_expiriesMoveEntries :
    (∃ (z : ZoneId) (e : EntryId) (c : InterlockContent) (s : State),
      s.zones[z].staleTimer.due s.now = true ∧ s.interlocks[e].content = some c ∧
        s.interlocks[e].enabled = true ∧ c.cause = .zoneNotLive z ∧ s.zones[z].state = .live) ∧
    ∃ (h : HouseId) (e : EntryId) (c : InterlockContent) (s : State),
      s.houses[h].silenceTimer.due s.now = true ∧ s.interlocks[e].content = some c ∧
        s.interlocks[e].enabled = true ∧ c.cause = .houseNotOnline h ∧
          s.houses[h].comm = .online :=
  ⟨⟨0, 0, ⟨.zoneNotLive 0, .all, .inhibit⟩,
      watched (zoned .config { liveZone with staleTimer := .running 0 0 } {}) (.zoneNotLive 0) false,
      by decide⟩,
    ⟨0, 0, ⟨.houseNotOnline 0, .all, .inhibit⟩,
      watched
        { pumped .config {} with
          houses := up.houses.set 0
            { configured := true, address := some 10, comm := .online, silenceTimer := .running 0 0 } }
        (.houseNotOnline 0) false, by decide⟩⟩

/-- Pump 0 is QUEUED at the head within its budget, and only a timer holds it back. -/
def heldBack (x : Pump) (z : Zone) : State :=
  { queued .supervised { x with report := offPump.report, ratedLoad := 8 } with
    feeders := up.feeders.set 0 { limit := 24 }, zones := up.zones.set 0 z }

theorem witness_restExpiriesGrantAndStop :
    (∃ (p : PumpId) (s u : State) (e : QueueEntry) (rest : List QueueEntry),
      s.pumps[p].minOffTimer.due s.now = true ∧ s.queue = e :: rest ∧
        u = { s with pumps := s.pumps.set p { s.pumps[p] with minOffTimer := .idle } } ∧
          u.eligible e.pump ∧ u.budgetHolds e.pump) ∧
    (∃ (z : ZoneId) (s u : State) (e : QueueEntry) (rest : List QueueEntry),
      s.zones[z].settleTimer.due s.now = true ∧ s.queue = e :: rest ∧
        (∀ q : PumpId, s.sheds z q ∨ s.supplies z q = false ∨ s.pumps[q].state ≠ .running) ∧
          u = { s with zones := s.zones.set z { s.zones[z] with settleTimer := .idle } } ∧
            u.eligible e.pump ∧ u.budgetHolds e.pump) ∧
    ∃ (z : ZoneId) (p : PumpId) (s : State), s.zones[z].settleTimer.due s.now = true ∧
      s.queue = [] ∧ s.stopPasses z p ∧ ∀ q : PumpId, s.stopPasses z q → p ≤ q :=
  ⟨⟨0, heldBack { minOffTimer := .running 0 0 } {}, _, ⟨0, .control, 1, 0, 0⟩, [], by decide, rfl, rfl,
      by unfold State.eligible; decide +kernel, by unfold State.budgetHolds; decide +kernel⟩,
    ⟨0, heldBack {} { settleTimer := .running 0 0 }, _, ⟨0, .control, 1, 0, 0⟩, [], by decide, rfl,
      by unfold State.sheds; decide +kernel, rfl,
      by unfold State.eligible; decide +kernel, by unfold State.budgetHolds; decide +kernel⟩,
    ⟨0, 0, zoned .supervised { liveZone with settleTimer := .running 0 0 }
        { offPump with state := .running, stopPending := true }, by decide, rfl,
      by unfold State.stopPasses; decide +kernel, fun q _ => Fin.zero_le q⟩⟩

/-- Zone 0 LIVE at a count of 400. -/
def later : State :=
  { zoned .config liveZone {} with clock := { up.clock with mono := 400 } }

theorem witness_staleLimitLoads :
    (∃ r, zoneChecks later [⟨5, 41⟩] = .ok (some r) ∧ r.inUse = liveZone.inUse ∧
      r.reporter = liveZone.reporter ∧ r.staleLimit ≠ liveZone.staleLimit ∧
        (liveZone.staleTimer.retime (r.staleLimit * 10)).due later.now = false) ∧
    ∃ r, zoneChecks later [⟨5, 40⟩] = .ok (some r) ∧ r.inUse = liveZone.inUse ∧
      r.reporter = liveZone.reporter ∧ r.staleLimit ≠ liveZone.staleLimit ∧
        (liveZone.staleTimer.retime (r.staleLimit * 10)).due later.now = true :=
  ⟨⟨{ liveZone with staleLimit := 41 }, by decide +kernel⟩,
    ⟨{ liveZone with staleLimit := 40 }, by decide +kernel⟩⟩

theorem witness_silenceLimitLoad :
    ∃ r, houseChecks (pumped .supervised {}) [⟨3, 10⟩] = .ok (some r) ∧
      r.configured = (pumped .supervised {}).houses[(0 : HouseId)].configured ∧
        r.address = (pumped .supervised {}).houses[(0 : HouseId)].address :=
  ⟨{ configured := true, address := some 10, comm := .online, silenceLimit := 10 }, by decide +kernel⟩

theorem witness_pumpLoadsThatKeepAndChange :
    (∃ r, pumpChecks (pumped .config offPump) [⟨14, 1⟩] = .ok (some r) ∧
      r.configured = offPump.configured) ∧
    ∃ r, pumpChecks (pumped .config offPump) [⟨3, 1⟩] = .ok (some r) ∧
      r.deliveryZone ≠ offPump.deliveryZone :=
  ⟨⟨{ offPump with startsLimit := 1 }, by decide +kernel⟩,
    ⟨{ offPump with deliveryZone := 1 }, by decide +kernel⟩⟩

theorem witness_interlockBodies :
    (∃ b : InterlockBody, b.causeKind = 0) ∧
    ∃ (b : InterlockBody) (c : InterlockContent), interlockContent b = some (some c) :=
  ⟨⟨⟨0, 0, 0, 0, 0, 0, 0⟩, rfl⟩,
    ⟨⟨2, 15, 32000, 2000, 4, 15, 2⟩, ⟨.zoneAtOrAbove 15 32000 2000, .deliveryZone 15, .inhibit⟩,
      by decide⟩⟩

/-- A bank of twelve windows. -/
def fullWindows : List Window := (List.range 12).map fun n => ⟨n, 0, 100⟩

theorem witness_planLoadsRefused :
    (∃ body : WindowBody, windowOf body = none) ∧ (∃ index : Byte, index ≠ 0) ∧
    (∃ (body : WindowBody) (x : Window) (s : State), windowOf body = some x ∧
      s.authority.mode = .config ∧ 12 < (insertWindow x s.plan.next).length ∧
        12 < (insertWindow x s.plan.active).length) ∧
    ∃ (body : WindowBody) (x : Window) (s : State), windowOf body = some x ∧
      s.authority.mode = .config ∧ (insertWindow x s.plan.next).length ≤ 12 ∧
        (insertWindow x s.plan.active).length ≤ 12 ∧ s.plan.next.length = 12 :=
  ⟨⟨⟨1440, 0, 100⟩, by decide⟩, ⟨1, by decide⟩,
    ⟨⟨1439, 0, 100⟩, ⟨1439, 0, 100⟩,
      { up with plan := { up.plan with active := fullWindows, next := fullWindows } }, by decide +kernel⟩,
    ⟨⟨11, 0, 50⟩, ⟨11, 0, 50⟩,
      { up with plan := { up.plan with active := fullWindows, next := fullWindows } }, by decide +kernel⟩⟩

theorem witness_readIndexes :
    (∃ table index : Byte, 1 ≤ table.toNat ∧ table.toNat ≤ 19 ∧
      tableSize table.toNat ≤ index.toNat) ∧
    (∃ table index : Byte, 1 ≤ table.toNat ∧ table.toNat ≤ 19 ∧ index.toNat < tableSize table.toNat) ∧
    (∃ (e : EntryId) (s : State), s.interlocks[e].content = none) ∧
    ∃ (e : EntryId) (c : InterlockContent) (s : State), s.interlocks[e].content = some c :=
  ⟨⟨13, 3, by decide⟩, ⟨11, 63, by decide⟩, ⟨31, up, by decide⟩,
    ⟨0, ⟨.inputActive 3, .all, .inhibit⟩, inhibiting, by decide⟩⟩

theorem witness_swapsMoveTheActiveBank :
    ∃ (c : Instr) (s t : State), s.authority.mode ≠ .config ∧ (∀ straps, c ≠ .coldReset straps) ∧
      exec c s = .next t ∧ t.plan.active = s.plan.next ∧ s.plan.active ≠ s.plan.next :=
  ⟨.planSwap, soundState, taken .planSwap soundState, by decide, (fun _ h => Instr.noConfusion h), rfl,
    by decide +kernel⟩

/-! ### Tests of the line code and of the checker, and of single steps on them -/

/-- 08 R134: the ten intervals of the byte A5 hex, written out from the rule: 0, then its bits from the
least significant, then 1. -/
theorem test_byte_on_the_line :
    byteCode 0xA5 = [.carries false, .carries true, .carries false, .carries true, .carries false,
      .carries false, .carries true, .carries false, .carries true, .carries true] := by decide

/-- 08 R134: an empty telegram on the line is its two marks, held low, high, high, low. -/
theorem test_marks_on_the_line :
    lineCode [] = [.held .low, .held .high, .held .high, .held .low] := by decide

/-- 08 R139: a violation inside a byte abandons the telegram, and what follows is not counted until a
start mark. -/
theorem test_violation_abandons_and_the_rest_is_skipped :
    Receiver.takeAll {} (startMark ++ [.carries false, .broken, .broken, .carries true] ++ startMark) =
      ({ phase := .assembling [] [] }, [.abandoned .violation]) := by decide

/-- 08 R139: an end mark inside a byte is misplaced, and a byte without its last 1 breaks the frame. -/
theorem test_misplaced_end_and_frame_fault :
    (Receiver.takeAll {} (startMark ++ [.carries false] ++ endMark)).2 =
        [.abandoned .misplacedEndMark] ∧
      (Receiver.takeAll {} (startMark ++ List.replicate 10 (.carries false))).2 =
        [.abandoned .violation] := by decide

/-- 08 R139: a 63rd byte is too long. -/
theorem test_sixty_third_byte_is_too_long :
    (Receiver.takeAll { phase := .assembling (List.replicate 62 0) [] } [.carries false]).2 =
      [.abandoned .excessLength] := by decide

/-- 08 R139: past an abandoned telegram a violation is not counted; hunting it is. -/
theorem test_violations_by_phase :
    let s := { up with portF1 := { up.portF1 with
      counterClass := .codeViolation, receiver := { phase := .skipping } } }
    (taken (.lineViolation .f1) s).portF1.live = 0 ∧
      (taken (.lineViolation .f2)
        { up with portF2 := { up.portF2 with counterClass := .codeViolation } }).portF2.live = 1 := by
  decide +kernel

/-- 08 R146: after its nine loaded bits PRBS-9 from all ones predicts the new bit 0, stage 5 and stage 9
being alike. -/
theorem test_prbs_new_bit :
    prbsNext .prbs9 (BitVec.allOnes 15) = false ∧ prbsNext .prbs9 0x100 = true ∧
      prbsNext .prbs15 0x2000 = true ∧ prbsNext .prbs15 0x6000 = false := by decide

/-- 08 R146: sixteen errors among the last bits checked, and not fifteen, end the sync. -/
theorem test_sixteen_errors_end_the_sync :
    let c (n : Nat) : Checker := { state := .inSync, checked := List.replicate n true }
    let t : TestSettings := ⟨.user, 0xFFFFFF, false, 1⟩
    ((c 15).take t false).2 = [.bitError, .outOfSync] ∧ ((c 14).take t false).2 = [.bitError] := by
  decide

/-- 03 R44, R57, R62, R66: the first STOP of a stop completes while a second one, of a trip, is pending:
the confirm timer starts. -/
theorem test_first_stop_starts_confirm_under_a_pending_one :
    let s := completing { awaiting .stopping (some .stop) with
      issuePending := some .stop, stopConfirmLimit := 20 }
    (taken (.transmissionComplete .f1) s).pumps[(0 : PumpId)].confirmTimer = .running 0 200 := by
  decide +kernel

/-- 06 R113: the day event of an advance already taken swaps before TIME_SET sets the day. -/
theorem test_time_set_finishes_the_day :
    let s := { soundState with clock := { up.clock with dayCount := 4, daysDue := 1 } }
    let t := taken (.timeSet 5 9) s
    (t.plan.active, t.clock.dayCount, t.clock.daysDue) = (fullBank, 9, 0) := by decide +kernel

/-! ### Losses, flushes and returns of a port -/

theorem witness_intervalsFound :
    (∃ (p : Port) (i : Interval) (s : State), (s.port p).state = .down ∧ i.valid = true ∧
      (s.port p).intervals + 1 = (s.port p).lossCount) ∧
    (∃ (p : Port) (i : Interval) (s : State), (s.port p).state = .up ∧ i.valid = false ∧
      (s.port p).intervals + 1 = (s.port p).lossCount) ∧
    ∃ (p : Port) (i : Interval) (s : State), (s.port p).state = .test ∧ i.valid = false ∧
      (s.port p).lossCount ≤ (s.port p).intervals :=
  ⟨⟨.c, .carries true, ported .c { intervals := 63 }, by decide⟩,
    ⟨.f1, .broken, ported .f1 { state := .up, intervals := 63 }, by decide⟩,
    ⟨.f2, .broken, ported .f2 { state := .test, intervals := 64 }, by decide⟩⟩

/-- 08 R137: in TEST a loss is found as the count reaches the loss count, and not again after it. -/
theorem test_loss_is_found_once_in_test :
    [62, 63, 64, 127].map (fun n => (PortRecord.takeInterval
      { state := .test, intervals := n } .broken).2) =
        [[.violation], [.violation, .lost], [.violation], [.violation]] := by decide

/-- 08 R137: the count goes on from UP to TEST, and over the loss in TEST. -/
theorem test_count_goes_on_into_test :
    ((taken (.portMode 1 1 ⟨0, 0, 0, 0⟩) (ported .f1 { state := .up, intervals := 40 })).portF1.intervals,
      (taken (.lossOfCode .f1) (ported .f1 { state := .test, intervals := 64 })).portF1.intervals) =
        (40, 64) := by decide +kernel

/-- F1 in a state of its own, with a command telegram of pump 0 and a pass telegram to send; pump 0 awaits
that telegram and its dwell timer runs. -/
def sendingFor0 (state : PortState) : State :=
  { pumped .supervised { offPump with
      state := .stopping, position := some .stop, awaited := some ⟨3, .stop, some .stop⟩
      dwellTimer := .running 0 50 } with
    portF1 := { state := state, own := [⟨.command 0 3, []⟩], pass := [[1]] } }

/-- A part whose entries are all empty watches no house. -/
theorem unwatched_of_empty {s : State} (h : ∀ e : EntryId, s.interlocks[e].content = none) :
    s.unwatched := fun e _ hc => absurd ((h e).symm.trans hc) (by simp)

theorem witness_flushTaken :
    (∃ (p : Port) (q : PumpId) (s : State), (s.port p).state = .up ∧ (s.port p).holdsBack = false ∧
      s.unwatched ∧ s.authority.mode ≠ .autonomous ∧ s.housePort (houseOf q) = some p ∧
        s.houses[houseOf q].comm = .online ∧ (s.port p).live ≤ 65535 ∧
          s.pumps[q].discarding q (s.port p).ownTelegrams ≠ s.pumps[q]) ∧
    (∃ s : State, s.portC.state = .up ∧ s.portC.holdsBack = false ∧
      ∃ x ∈ s.portC.ownTelegrams, x.kind = .alert) ∧
    ∃ s : State, s.portC.state = .up ∧ s.portC.holdsBack = false ∧
      ∀ x ∈ s.portC.ownTelegrams, x.kind ≠ .alert :=
  ⟨⟨.f1, 0, sendingFor0 .up, by decide, by decide, unwatched_of_empty (by decide +kernel), by decide,
      by decide +kernel,
      by decide, by decide, by decide +kernel⟩,
    ⟨ported .c { state := .up, sending := some (.own ⟨.alert, []⟩) }, by decide, by decide,
      ⟨.alert, []⟩, by decide, rfl⟩,
    ⟨up, by decide⟩⟩

/-- 08 R138, 03 R45 and R62: the loss gives pump 0 its STOP back as its issue pending, pauses its dwell
and counts the pass telegram. -/
theorem test_loss_flushes_the_commands :
    let t := taken (.lossOfCode .f1)
      { sendingFor0 .up with
        clock := { mono := 20 }, portF1 := { (sendingFor0 .up).portF1 with counterClass := .dropped } }
    (t.pumps[(0 : PumpId)].issuePending, t.pumps[(0 : PumpId)].awaited,
      t.pumps[(0 : PumpId)].dwellTimer, t.portF1.live) =
        (some .stop, none, .paused 30, 1) := by decide +kernel

/-- The model's choice of notes/assumptions/30.md. -/
theorem test_dropped_effect_follows_the_reset :
    (taken (.transmissionComplete .c) (ported .c
      { state := .up, sending := some (.own ⟨.reply (some .reset), []⟩)
        own := [⟨.reply (some (.enterTest ⟨.prbs9, 0, false, 5⟩)), []⟩] })).portC.state = .test := by
  decide +kernel

/-- Pump 0 of a house that is SILENT while F1 is DOWN, its telegram pending and its dwell paused. -/
def cutOff : State :=
  let s := pumped .supervised { offPump with
    state := .stopping, position := some .stop, issuePending := some .stop, dwellTimer := .paused 30 }
  { s with
    portF1 := {}
    houses := s.houses.set 0 { s.houses[(0 : HouseId)] with
      comm := .unreachable, silenceTimer := .running 0 1200 } }

theorem witness_portUpReachesHouse :
    ∃ (p : Port) (q : PumpId) (s t : State), (s.port p).state = .down ∧
      exec (.portUp p) s = .next t ∧ s.unwatched ∧ s.authority.mode ≠ .autonomous ∧ s.queue = [] ∧
        (∀ k : HouseId, s.housePort k ≠ some p → t.houses[k] = s.houses[k]) ∧
          s.housePort (houseOf q) = some p ∧ s.houses[houseOf q].comm ≠ .online ∧
            t.houses[houseOf q].comm = .online ∧ s.pumps[q].issuePending ≠ none :=
  ⟨.f1, 0, cutOff, taken (.portUp .f1) cutOff, by decide, rfl, unwatched_of_empty (by decide +kernel),
    by decide, rfl, by decide +kernel, by decide +kernel, by decide, by decide +kernel, by decide⟩

/-- 03 R45 and R62: the house is ONLINE again, its dwell runs from what remained, its STOP is placed. -/
theorem test_port_up_returns_the_pumps :
    let t := taken (.portUp .f1) cutOff
    (t.pumps[(0 : PumpId)].issuePending, t.pumps[(0 : PumpId)].dwellTimer, t.portF1.own.length) =
      (none, .running 0 30, 1) := by decide +kernel

theorem witness_issuesPendingPlaced :
    (∃ (p : Port) (s : State) (x : OwnTelegram) (rest : List OwnTelegram), p ≠ .c ∧
      (s.port p).state = .up ∧ (s.port p).sending = none ∧ (s.port p).own = x :: rest ∧
        s.pendingFor p ≠ []) ∧
    (∃ (w : Work) (h : HouseId) (p : Port), w.housePort h = some p ∧ w.pendingFor p ≠ []) ∧
    ∃ (w : Work) (h : HouseId) (p : Port), w.housePort h ≠ some p :=
  ⟨⟨.f1, { pumped .supervised { offPump with issuePending := some .stop } with
        portF1 := { state := .up, own := [plainReply] } }, plainReply, [], by decide +kernel⟩,
    ⟨Work.of (pumped .supervised { offPump with issuePending := some .stop }), 0, .f1,
      by decide +kernel⟩,
    ⟨Work.of up, 0, .f1, by decide +kernel⟩⟩

theorem witness_silenceLeavesOnline :
    ∃ (h : HouseId) (s : State), s.houses[h].silenceTimer.due s.now = true ∧ s.unwatched ∧
      s.houses[h].comm = .online :=
  ⟨0, { pumped .supervised {} with
      clock := { mono := 5 }
      houses := up.houses.set 0 ⟨true, some 10, 120, none, .running 0 5, .online⟩ },
    by decide +kernel, unwatched_of_empty (by decide +kernel), by decide⟩

/-! ### Alert triggers -/

theorem witness_alertTriggered :
    (∃ (p : Port) (s : State), (s.port p).state = .test ∧ (s.port p).checker.state = .inSync ∧
      (s.port p).errorFlagged = false ∧ s.events.isLatched (.port .testErrors p) = false ∧
        s.general.enableSet.getLsbD 10 = true ∧ s.events.alertOutstanding = false ∧
          s.events.holdoff = .idle ∧ s.portC.takesOwn = true) ∧
    (∃ (p : Port) (s : State), (s.port p).state = .test ∧ (s.port p).checker.state = .inSync ∧
      (s.port p).errorFlagged = false ∧ s.events.isLatched (.port .testErrors p) = false ∧
        s.general.enableSet.getLsbD 10 = true ∧ s.events.alertOutstanding = true) ∧
    (∃ (p : Port) (s : State), (s.port p).state = .test ∧ (s.port p).checker.state = .inSync ∧
      (s.port p).errorFlagged = false ∧ s.events.isLatched (.port .testErrors p) = false ∧
        s.general.enableSet.getLsbD 10 = false) ∧
    ∃ (p : Port) (s : State), (s.port p).state = .test ∧ (s.port p).checker.state = .inSync ∧
      (s.port p).errorFlagged = false ∧ s.events.isLatched (.port .testErrors p) = true :=
  let s := ported .f1 { state := .test, checker := { state := .inSync } }
  ⟨⟨.f1, s, by decide⟩, ⟨.f1, { s with events := { alertOutstanding := true } }, by decide⟩,
    ⟨.f1, { s with general := { enableSet := 0xFBFF } }, by decide⟩,
    ⟨.f1, { s with events := { latched := [⟨.port .testErrors .f1, 0⟩] } }, by decide⟩⟩

/-- A part with a flag of a disabled kind latched, and an entry that has waited for its limit. -/
def waited : State :=
  { queued .supervised {} with
    clock := { mono := 3000 }
    events := { latched := [⟨.part .planKept, 0⟩] }
    general := { enableSet := 0 } }

theorem witness_generalLoadsActOnPresent :
    (∃ (fields : List FieldEntry) (s : State) (r : General),
      checkFields s.general 7 (fun _ => true) General.setField (fun _ => true) (some fields) =
        .ok (some r) ∧ s.authority.mode ≠ .autonomous ∧ (∃ x ∈ fields, x.code = 1) ∧
          (∀ e ∈ s.queue, s.pumps[e.pump].state = .queued) ∧
            ∃ e ∈ s.queue, r.waitLimit * 10 ≤ (s.clock.mono - e.entered).toNat) ∧
    ∃ (fields : List FieldEntry) (s : State) (r : General),
      checkFields s.general 7 (fun _ => true) General.setField (fun _ => true) (some fields) =
        .ok (some r) ∧ s.authority.mode ≠ .autonomous ∧
          ∃ x ∈ s.events.latched, s.general.enables x.flag = false ∧ r.enables x.flag = true :=
  ⟨⟨[⟨1, 300⟩], waited, { enableSet := 0 }, by decide +kernel⟩,
    ⟨[⟨7, 0xFFFF⟩], waited, {}, by decide +kernel⟩⟩

/-- 04 R75: a load of the wait limit that holds removes an entry that has waited for it. -/
theorem test_present_wait_limit_ends_waits :
    let t := taken (.partLoadGeneral 0 [⟨1, 300⟩]) waited
    (t.queue, t.pumps[(0 : PumpId)].state, t.events.isLatched (.pump .queueTimeout 0)) =
      ([], .off, true) := by decide +kernel

theorem witness_houseLoadWithoutLimit :
    ∃ r, houseChecks (pumped .config {}) [⟨1, 1⟩] = .ok (some r) ∧
      r.configured = (pumped .config {}).houses[(0 : HouseId)].configured ∧
        r.address = (pumped .config {}).houses[(0 : HouseId)].address :=
  ⟨(pumped .config {}).houses[(0 : HouseId)], by decide +kernel⟩

/-! ### Requests and lockouts by the state of the pump -/

theorem witness_requestsByState :
    (∀ st : PumpState, ∃ (p : PumpId) (s : State), s.pumps[p].configured = true ∧
      s.authority.mode = .supervised ∧ s.pumps[p].state = st ∧ s.pumps[p].stopPending = true) ∧
    ∀ (st : PumpState) (running : Bool), ∃ (p : PumpId) (s : State),
      s.pumps[p].configured = true ∧ s.authority.mode = .autonomous ∧ s.pumps[p].state = st ∧
        s.pumps[p].reportsRunning = running :=
  ⟨fun st => ⟨0, pumped .supervised { offPump with state := st, stopPending := true }, rfl, rfl, rfl,
      rfl⟩,
    fun st running => ⟨0, pumped .autonomous { offPump with
      state := st, report := some ⟨running, true, false, 0, 0⟩ }, rfl, rfl, rfl, rfl⟩⟩

theorem witness_lockoutMemberAdded :
    (∀ st : PumpState, ∃ (w : Work) (p : PumpId), w.pumps[p].state = st ∧
      w.pumps[p].lockout.isEmpty = true ∧ w.pumps[p].lockout.has (.internal .failToStop) = false) ∧
    (∃ (w : Work) (p : PumpId), w.pumps[p].state = .stopping ∧ w.pumps[p].lockout.isEmpty = false ∧
      w.pumps[p].lockout.has (.internal .failToStop) = false) ∧
    (∃ (w : Work) (p : PumpId), w.pumps[p].lockout.has (.internal .failToStop) = true) ∧
    ∃ (e : EntryId) (c : InterlockContent) (s : State) (p : PumpId),
      s.interlocks[e].enabled = false ∧ s.interlocks[e].content = some c ∧ c.action ≠ .inhibit ∧
        s.causeHolds c.cause false = true ∧ s.covers c.target p = true ∧
          s.pumps[p].lockout.entries.getLsbD e.val = false ∧ s.pumps[p].state = .running :=
  ⟨fun st => ⟨Work.of (pumped .supervised { offPump with state := st }), 0, rfl, rfl, rfl⟩,
    ⟨Work.of (pumped .supervised { offPump with state := .stopping, lockout := { entries := 1 } }), 0,
      by decide⟩,
    ⟨Work.of (pumped .supervised { offPump with state := .locked, lockout := { failToStop := true } }), 0,
      by decide⟩,
    ⟨31, ⟨.inputActive 3, .all, .tripLatch⟩,
      { lockedBy false false with pumps := up.pumps.set 0 { offPump with state := .running } }, 0,
      by decide +kernel⟩⟩

/-- 03 R66: a RUNNING pump that an interlock trips is STOPPING at position STOP. -/
theorem test_interlock_trips_a_running_pump :
    let t := taken (.enableInterlock 31 1)
      { lockedBy false false with pumps := up.pumps.set 0 { offPump with state := .running } }
    (t.pumps[(0 : PumpId)].state, t.pumps[(0 : PumpId)].position, t.portF1.own.length) =
      (.stopping, some .stop, 1) := by decide +kernel

theorem witness_lockoutMemberRemoved :
    (∀ r : Option PumpReport, ∃ (w : Work) (p : PumpId) (x : Pump),
      x = { w.pumps[p] with lockout := w.pumps[p].lockout.remove (.internal .failToStop) } ∧
        w.pumps[p].lockout.has (.internal .failToStop) = true ∧ x.state = .locked ∧ x.lockout.isEmpty = true ∧
          x.report = r) ∧
    (∃ (p : PumpId) (s t : State), s.authority.mode ≠ .autonomous ∧ s.pumps[p].state = .locked ∧
      s.pumps[p].lockout.isEmpty = false ∧ exec (.clearLockout 0 31) s = .next t ∧
        t.pumps[p].lockout.isEmpty = true) ∧
    ∃ (p : PumpId) (s t : State), s.authority.mode ≠ .autonomous ∧ s.pumps[p].state = .locked ∧
      s.pumps[p].lockout.isEmpty = false ∧ exec (.clearLockout 0 31) s = .next t ∧
        t.pumps[p].lockout.isEmpty = false :=
  ⟨fun r => ⟨Work.of (pumped .supervised { offPump with
        state := .locked, report := r, lockout := { failToStop := true } }), 0,
      { offPump with state := .locked, report := r }, rfl, rfl, rfl, rfl, rfl⟩,
    ⟨0, lockedBy true false, taken (.clearLockout 0 31) (lockedBy true false), by decide, by decide,
      by decide, rfl, by decide +kernel⟩,
    ⟨0, lockedBy true true, taken (.clearLockout 0 31) (lockedBy true true), by decide, by decide,
      by decide, rfl, by decide +kernel⟩⟩

/-! ### Calls at a change of mode -/

theorem witness_runSetsCalls :
    ∃ (target : Byte) (s : State), s.authority.mode = .config ∧ target = 2 ∧ s.validate = none ∧
      s.queue = [] ∧ (∀ p : PumpId, s.pumps[p].stopPending = false) ∧
        s.zones[(0 : ZoneId)].inUse = true ∧ s.activeCount 0 ≠ s.zones[(0 : ZoneId)].call :=
  ⟨2, zoned .config liveZone { offPump with state := .running }, by decide, rfl, by decide +kernel, rfl,
    by decide +kernel, by decide, by decide +kernel⟩

/-- 02 R33: entry to AUTONOMOUS by order and by RUN sets the call to the active pumps. -/
theorem test_calls_follow_the_active_pumps :
    [(taken .autonomous (zoned .supervised liveZone { offPump with state := .running })),
      (taken (.run 2) (zoned .config liveZone { offPump with state := .running }))].map
        (fun t => t.zones[(0 : ZoneId)].call) = [1, 1] := by decide +kernel

end Sys2Proof.Tests
end

section
/-! SUPPORT. Proofs of the demand arithmetic (R22 to R24) and of the charge and the command speed of a
pump (R35, R43): an equation or a bound per function of the model, and the statements O24 and O26
assembled from them. -/

namespace Sys2Proof.Machine

/-! ### The slope base and the raw slope (R22, R23) -/

theorem slopeDecision_of_no_base {z : Zone} (h : z.slopeBase = none) (level : Nat) (q : Quality)
    (t : Count) : slopeDecision z level q t = (some ⟨level, t⟩, 0) := by
  simp [slopeDecision, h]

/-- With a slope base, cases 2 to 5 of R22 in their order. -/
theorem slopeDecision_of_base {z : Zone} {b : SlopeBase} (h : z.slopeBase = some b) (level : Nat)
    (q : Quality) (t : Count) :
    slopeDecision z level q t =
      if q = .suspect then (some b, z.trend)
      else if z.staleLimit * 10 < (t - b.time).toNat then (some ⟨level, t⟩, 0)
      else if (t - b.time).toNat < 20 then (some b, z.trend)
      else (some ⟨level, t⟩,
        smoothTrend z.trend (rawSlope level b.level (t - b.time).toNat) z.smoothing) := by
  rw [slopeDecision, h]
  rfl

theorem clampInt_of_lo_le {lo hi x : Int} (range : lo ≤ hi) (h : lo ≤ x) :
    clampInt lo hi x = min hi x := by
  rw [clampInt, max_eq_right (le_min range h)]

theorem clampInt_of_le_hi {hi x : Int} (h : x ≤ hi) (lo : Int) : clampInt lo hi x = max lo x := by
  rw [clampInt, min_eq_right h]

theorem rawSlope_of_rise {level base : Nat} (h : base ≤ level) (dt : Nat) :
    rawSlope level base dt = min 32767 (((level - base) * 9600 / dt : Nat) : Int) := by
  have change : ((level : Int) - base) * 9600 = (((level - base) * 9600 : Nat) : Int) := by
    push_cast [h]; rfl
  rw [rawSlope, change, ← Int.ofNat_tdiv]
  exact clampInt_of_lo_le (by decide) (le_trans (by decide) (Int.natCast_nonneg _))

theorem rawSlope_of_fall {level base : Nat} (h : level ≤ base) (dt : Nat) :
    rawSlope level base dt = max (-32768) (-(((base - level) * 9600 / dt : Nat) : Int)) := by
  have change : ((level : Int) - base) * 9600 = -(((base - level) * 9600 : Nat) : Int) := by
    push_cast [h]; ring
  rw [rawSlope, change, Int.neg_tdiv, ← Int.ofNat_tdiv]
  exact clampInt_of_le_hi (le_trans (Int.neg_nonpos_of_nonneg (Int.natCast_nonneg _)) (by decide)) _

/-! ### The smoothed trend (R24) -/

/-- Rounding toward minus infinity is the division of the integers, as the divisor is positive. -/
theorem smoothTrend_eq_ediv (trend slope : Int) (k : Nat) :
    smoothTrend trend slope k = trend + (slope - trend) / 2 ^ k := by
  rw [smoothTrend, Int.fdiv_eq_ediv_of_nonneg _ (by positivity)]

theorem smoothTrend_shift_zero (trend slope : Int) : smoothTrend trend slope 0 = slope := by
  simp [smoothTrend_eq_ediv]

/-- A floored quotient by a positive divisor lies between 0 and its dividend. -/
theorem ediv_between_zero_and_self (d : Int) {m : Int} (hm : 0 < m) :
    min 0 d ≤ d / m ∧ d / m ≤ max 0 d := by
  rcases le_total 0 d with rise | fall
  · have := Int.ediv_nonneg rise hm.le
    have := Int.ediv_le_self m rise
    omega
  · have : d ≤ d / m := (Int.le_ediv_iff_mul_le hm).2 (by nlinarith)
    have : d / m ≤ 0 := Int.ediv_nonpos_of_nonpos_of_neg fall hm
    omega

theorem smoothTrend_between (trend slope : Int) (k : Nat) :
    min trend slope ≤ smoothTrend trend slope k ∧
      smoothTrend trend slope k ≤ max trend slope := by
  have := ediv_between_zero_and_self (slope - trend) (m := 2 ^ k) (by positivity)
  rw [smoothTrend_eq_ediv]
  omega

/-- Settles O24: the decision by the cases of R22 in their order, the raw slope by the sign of the
change, the smoothed trend by the bounds of a floored quotient. -/
theorem trendArithmetic : Obligations.TrendArithmetic := by
  unfold Obligations.TrendArithmetic
  refine ⟨fun z level q t => ⟨fun h => slopeDecision_of_no_base h level q t, fun b h => ?_⟩,
    fun level base dt _ => ⟨fun h => rawSlope_of_rise h dt, fun h => rawSlope_of_fall h dt⟩,
    fun trend slope k => ?_⟩
  · rw [slopeDecision_of_base h, ← smoothTrend_eq_ediv]
    refine ⟨?suspect, ?stale, ?early, ?smoothed⟩
    case suspect => exact fun hq => if_pos hq
    case stale => intro hq old; rw [if_neg hq, if_pos old]
    case early => intro hq fresh early; rw [if_neg hq, if_neg fresh.not_gt, if_pos early]
    case smoothed => intro hq fresh late; rw [if_neg hq, if_neg fresh.not_gt, if_neg late.not_gt]
  · obtain ⟨lower, upper⟩ := smoothTrend_between trend slope k
    exact ⟨lower, upper, smoothTrend_shift_zero trend slope⟩

/-! ### The charge of a pump (R35) -/

theorem Pump.charge_of_unconfigured {x : Pump} (h : x.configured = false) : x.charge = 0 := by
  simp [Pump.charge, h]

section
variable {x : Pump} (hc : x.configured = true)
include hc

theorem Pump.charge_of_starting (h : x.state = .starting) : x.charge = x.startCharge := by
  simp [Pump.charge, hc, h]

theorem Pump.charge_of_turning (h : x.state = .running ∨ x.state = .stopping) :
    x.charge = x.ratedLoad := by
  rcases h with h | h <;> simp [Pump.charge, hc, h]

theorem Pump.charge_of_waiting (h : x.state = .off ∨ x.state = .queued) : x.charge = 0 := by
  rcases h with h | h <;> simp [Pump.charge, hc, h]

/-- In the remaining states the last report decides. -/
theorem Pump.charge_of_reported
    (h : x.state = .unknown ∨ x.state = .locked ∨ x.state = .unavailable) :
    x.charge = if x.reportsRunning then x.ratedLoad else 0 := by
  rcases h with h | h | h <;> simp [Pump.charge, hc, h]

end

/-- The start charge is the least whole number that is an eighth of the product or more. -/
theorem Pump.startCharge_bounds (x : Pump) :
    x.startCharge * 8 < x.ratedLoad * x.inrush + 8 ∧
      x.ratedLoad * x.inrush ≤ x.startCharge * 8 := by
  rw [Pump.startCharge]
  omega

/-- Within the ranges of R34 a start charge is 1 to 12 000. -/
theorem Pump.startCharge_range {x : Pump} (load : 1 ≤ x.ratedLoad) (load' : x.ratedLoad ≤ 2000)
    (inrush : 8 ≤ x.inrush) (inrush' : x.inrush ≤ 48) :
    1 ≤ x.startCharge ∧ x.startCharge ≤ 12000 := by
  have least : 1 * 8 ≤ x.ratedLoad * x.inrush := Nat.mul_le_mul load inrush
  have most : x.ratedLoad * x.inrush ≤ 2000 * 48 := Nat.mul_le_mul load' inrush'
  have := x.startCharge_bounds
  omega

/-! ### The command speed of a profile point (R43) -/

theorem clampNat_bounds {lo hi : Nat} (h : lo ≤ hi) (n : Nat) :
    lo ≤ clampNat lo hi n ∧ clampNat lo hi n ≤ hi := by
  rw [clampNat]
  omega

theorem clampNat_of_mem {lo hi n : Nat} (h : lo ≤ n) (h' : n ≤ hi) : clampNat lo hi n = n := by
  rw [clampNat]
  omega

/-- Where the trimmed speed, rounded half up, lies within the bounds, it is commanded. -/
theorem Pump.commandSpeed_of_rounded {x : Pump} {v n : Nat} (h : x.minSpeed ≤ n)
    (h' : n ≤ x.maxSpeed) (lower : 32 * n ≤ v * x.speedTrim + 16)
    (upper : v * x.speedTrim + 16 < 32 * (n + 1)) : x.commandSpeed v = n := by
  have rounded : (v * x.speedTrim + 16) / 32 = n := by omega
  rw [Pump.commandSpeed, rounded, clampNat_of_mem h h']

/-- Settles O26: the charge by the pump's state, with the bounds of a quotient rounded up for the start
charge; the command speed by the bounds of a clamp. -/
theorem chargeAndCommandSpeed : Obligations.ChargeAndCommandSpeed := by
  unfold Obligations.ChargeAndCommandSpeed
  refine ⟨fun x => ⟨Pump.charge_of_unconfigured, fun hc => ?_⟩, fun x v h => ?_⟩
  · refine ⟨?starts, ?range, Pump.charge_of_turning hc, Pump.charge_of_waiting hc,
      Pump.charge_of_reported hc⟩
    case starts => intro h; rw [Pump.charge_of_starting hc h]; exact x.startCharge_bounds
    case range => intro h; rw [Pump.charge_of_starting hc h]; exact Pump.startCharge_range
  · obtain ⟨lower, upper⟩ := clampNat_bounds h ((v * x.speedTrim + 16) / 32)
    exact ⟨lower, upper, fun n => Pump.commandSpeed_of_rounded⟩

end Sys2Proof.Machine
end

section
/-! SUPPORT. Proofs of CLEAR_FLAGS (R167, R168, R176): the sort of object that a kind names, and what the
order leaves when it is refused, names one flag or names ALL; the statement O45 assembled from them. -/

namespace Sys2Proof.Machine

/-! ### Objects by their numbers (R176) -/

theorem objectOf_of_lt {n v : Nat} (h : v < n) : objectOf n v = some ⟨v, h⟩ := dif_pos h

theorem objectOf_of_le {n v : Nat} (h : n ≤ v) : objectOf n v = none := dif_neg h.not_gt

theorem objectOf_byte {n : Nat} (bound : n ≤ 256) (i : Fin n) :
    objectOf n (byte i.val).toNat = some i := by
  have small : (byte i.val).toNat = i.val := by
    rw [byte, BitVec.toNat_ofNat]
    exact Nat.mod_eq_of_lt (i.isLt.trans_le bound)
  rw [small, objectOf_of_lt i.isLt]

theorem portOf_byte_portNumber (q : Port) : portOf (byte (portNumber q)) = some q := by
  cases q <;> rfl

/-! ### Kinds by their codes (R167) -/

theorem exists_pumpFlag_of_code {n : Nat} (lo : 1 ≤ n) (hi : n ≤ 6) :
    ∃ k : PumpFlag, ∀ p, n = (Flag.pump k p).kindIndex + 1 := by
  interval_cases n
  exacts [⟨.failToStart, fun _ => rfl⟩, ⟨.failToStop, fun _ => rfl⟩,
    ⟨.outstationTrip, fun _ => rfl⟩, ⟨.uncommandedRun, fun _ => rfl⟩,
    ⟨.uncommandedStop, fun _ => rfl⟩, ⟨.queueTimeout, fun _ => rfl⟩]

theorem exists_zoneFlag_of_code {n : Nat} (lo : 7 ≤ n) (hi : n ≤ 9) :
    ∃ k : ZoneFlag, ∀ z, n = (Flag.zone k z).kindIndex + 1 := by
  interval_cases n
  exacts [⟨.stale, fun _ => rfl⟩, ⟨.sensorFail, fun _ => rfl⟩, ⟨.thresholdCollapse, fun _ => rfl⟩]

theorem exists_portFlag_of_code {n : Nat} (lo : 10 ≤ n) (hi : n ≤ 11) :
    ∃ k : PortFlag, ∀ q, n = (Flag.port k q).kindIndex + 1 := by
  interval_cases n
  exacts [⟨.loss, fun _ => rfl⟩, ⟨.testErrors, fun _ => rfl⟩]

theorem exists_partFlag_of_code {n : Nat} (lo : 12 ≤ n) (hi : n ≤ 16) :
    ∃ k : PartFlag, n = (Flag.part k).kindIndex + 1 := by
  interval_cases n
  exacts [⟨.queueFull, rfl⟩, ⟨.modeFallback, rfl⟩, ⟨.planSwapped, rfl⟩, ⟨.planKept, rfl⟩,
    ⟨.rejectedTelegrams, rfl⟩]

theorem Flag.byte_code_toNat (f : Flag) : (byte (f.kindIndex + 1)).toNat = f.kindIndex + 1 := by
  rcases f with ⟨k, _⟩ | ⟨k, _⟩ | ⟨k, _⟩ | k <;> cases k <;> rfl

/-! ### The flag that a kind and an object name (R168, R176) -/

section
variable {kind : Byte} (object : Byte)

theorem flagNamed_pump (k : PumpFlag) (p : PumpId)
    (code : kind.toNat = (Flag.pump k p).kindIndex + 1) :
    flagNamed kind object =
      (objectOf 48 object.toNat).elim (.error .badIndex) fun p => .ok (.pump k p) := by
  rw [flagNamed, code]
  cases k <;> cases objectOf 48 object.toNat <;> rfl

theorem flagNamed_zone (k : ZoneFlag) (z : ZoneId)
    (code : kind.toNat = (Flag.zone k z).kindIndex + 1) :
    flagNamed kind object =
      (objectOf 16 object.toNat).elim (.error .badIndex) fun z => .ok (.zone k z) := by
  rw [flagNamed, code]
  cases k <;> cases objectOf 16 object.toNat <;> rfl

theorem flagNamed_port (k : PortFlag) (q : Port)
    (code : kind.toNat = (Flag.port k q).kindIndex + 1) :
    flagNamed kind object =
      (portOf object).elim (.error .badIndex) fun q => .ok (.port k q) := by
  rw [flagNamed, code]
  cases k <;> cases portOf object <;> rfl

theorem flagNamed_part (k : PartFlag) (code : kind.toNat = (Flag.part k).kindIndex + 1) :
    flagNamed kind object = if object = 0 then .ok (.part k) else .error .badIndex := by
  rw [flagNamed, code]
  cases k <;> rfl

theorem flagNamed_of_no_kind (h : kind.toNat = 0 ∨ 17 ≤ kind.toNat) :
    flagNamed kind object = .error .badValue := by
  dsimp only [flagNamed]
  split
  case h_17 => rfl
  all_goals omega

theorem flagNamed_of_no_object
    (h : (1 ≤ kind.toNat ∧ kind.toNat ≤ 6 ∧ 48 ≤ object.toNat) ∨
      (7 ≤ kind.toNat ∧ kind.toNat ≤ 9 ∧ 16 ≤ object.toNat) ∨
      (10 ≤ kind.toNat ∧ kind.toNat ≤ 11 ∧ portOf object = none) ∨
      (12 ≤ kind.toNat ∧ kind.toNat ≤ 16 ∧ object ≠ 0)) :
    flagNamed kind object = .error .badIndex := by
  rcases h with ⟨lo, hi, above⟩ | ⟨lo, hi, above⟩ | ⟨lo, hi, noPort⟩ | ⟨lo, hi, nonzero⟩
  · obtain ⟨k, code⟩ := exists_pumpFlag_of_code lo hi
    rw [flagNamed_pump object k 0 (code 0), objectOf_of_le above, Option.elim_none]
  · obtain ⟨k, code⟩ := exists_zoneFlag_of_code lo hi
    rw [flagNamed_zone object k 0 (code 0), objectOf_of_le above, Option.elim_none]
  · obtain ⟨k, code⟩ := exists_portFlag_of_code lo hi
    rw [flagNamed_port object k .c (code .c), noPort, Option.elim_none]
  · obtain ⟨k, code⟩ := exists_partFlag_of_code lo hi
    rw [flagNamed_part object k code, if_neg nonzero]

theorem exists_flagNamed (lo : 1 ≤ kind.toNat) (hi : kind.toNat ≤ 16)
    (pump : kind.toNat ≤ 6 → object.toNat < 48)
    (zone : 7 ≤ kind.toNat → kind.toNat ≤ 9 → object.toNat < 16)
    (port : 10 ≤ kind.toNat → kind.toNat ≤ 11 → portOf object ≠ none)
    (part : 12 ≤ kind.toNat → object = 0) : ∃ f, flagNamed kind object = .ok f := by
  have sorts : kind.toNat ≤ 6 ∨ (7 ≤ kind.toNat ∧ kind.toNat ≤ 9) ∨
      (10 ≤ kind.toNat ∧ kind.toNat ≤ 11) ∨ 12 ≤ kind.toNat := by omega
  rcases sorts with hi | ⟨lo, hi⟩ | ⟨lo, hi⟩ | lo
  · obtain ⟨k, code⟩ := exists_pumpFlag_of_code lo hi
    exact ⟨_, by rw [flagNamed_pump object k 0 (code 0), objectOf_of_lt (pump hi), Option.elim_some]⟩
  · obtain ⟨k, code⟩ := exists_zoneFlag_of_code lo hi
    exact ⟨_, by
      rw [flagNamed_zone object k 0 (code 0), objectOf_of_lt (zone lo hi), Option.elim_some]⟩
  · obtain ⟨k, code⟩ := exists_portFlag_of_code lo hi
    obtain ⟨q, named⟩ := Option.ne_none_iff_exists'.1 (port lo hi)
    exact ⟨_, by rw [flagNamed_port object k .c (code .c), named, Option.elim_some]⟩
  · obtain ⟨k, code⟩ := exists_partFlag_of_code lo hi
    exact ⟨_, by rw [flagNamed_part object k code, if_pos (part lo)]⟩

end

/-- The two bytes by which an alert names a flag name it in CLEAR_FLAGS. -/
theorem flagNamed_code_object (f : Flag) :
    flagNamed (byte (f.kindIndex + 1)) f.object = .ok f := by
  have code := f.byte_code_toNat
  cases f with
  | pump k p =>
    rw [flagNamed_pump _ k p code, Flag.object, objectOf_byte (by decide), Option.elim_some]
  | zone k z =>
    rw [flagNamed_zone _ k z code, Flag.object, objectOf_byte (by decide), Option.elim_some]
  | port k q =>
    rw [flagNamed_port _ k q code, Flag.object, portOf_byte_portNumber, Option.elim_some]
  | part k => rw [flagNamed_part _ k code, Flag.object, if_pos rfl]

/-! ### What the order leaves (R168) -/

/-- A cleared flag leaves the latch order; the counts become 0 with REJECTED_TELEGRAMS only. -/
theorem Work.clearFlag_eq (w : Work) (f : Flag) :
    w.clearFlag f =
      ((w.setEvents { w.events with
          latched := w.events.latched.filter fun x => x.flag != f }).setTracker
        (if f = .part .rejectedTelegrams then { mismatch := 0, unknown := 0 } else w.tracker)).setSwitch
        (if f = .part .rejectedTelegrams then
          { w.switch with rejected := 0, misdirected := 0, unrouted := 0 }
         else w.switch) := by
  unfold Work.clearFlag
  split <;> rfl

theorem Work.clearFlag_partAddress (w : Work) (f : Flag) :
    (w.clearFlag f).switch.partAddress = w.switch.partAddress := by
  unfold Work.clearFlag
  split <;> rfl

section
variable {kind object : Byte} (s : State)

theorem exec_clearFlags_of_refused (named : kind ≠ 255) {r : Result}
    (h : flagNamed kind object = .error r) :
    exec (.clearFlags kind object) s = .next (s.answering kindPartOrder (Answer.of r)) := by
  refine congrArg Host.Outcome.next (manage_nothing s _ _ _ ?_ rfl)
  rw [Work.orderClearFlags, if_neg named, h]
  rfl

theorem exec_clearFlags_of_named (named : kind ≠ 255) {f : Flag}
    (h : flagNamed kind object = .ok f) :
    exec (.clearFlags kind object) s = .next { s with
      events := { s.events with latched := s.events.latched.filter fun x => x.flag != f }
      tracker :=
        if f = .part .rejectedTelegrams then { mismatch := 0, unknown := 0 } else s.tracker
      switch :=
        if f = .part .rejectedTelegrams then
          { s.switch with rejected := 0, misdirected := 0, unrouted := 0 }
        else s.switch
      portC := s.portC.withReply (s.replyTo kindPartOrder (Answer.of .done)) } := by
  let w := (Work.of s).setReplying true
  have taken : answered (w.orderClearFlags kind object) = (Answer.of .done, w.clearFlag f) := by
    rw [Work.orderClearFlags, if_neg named, h]
    rfl
  have address := w.clearFlag_partAddress f
  rw [w.clearFlag_eq f] at taken address
  exact congrArg Host.Outcome.next
    (manage_silent s _ _ _ _ taken rfl address (.inl rfl) rfl rfl)

theorem exec_clearFlags_all :
    exec (.clearFlags 255 object) s = .next { s with
      events := { s.events with latched := [] }
      tracker := { mismatch := 0, unknown := 0 }
      switch := { s.switch with rejected := 0, misdirected := 0, unrouted := 0 }
      portC := s.portC.withReply (s.replyTo kindPartOrder (Answer.of .done)) } :=
  congrArg Host.Outcome.next
    (manage_silent s _ _ (Answer.of .done) ((Work.of s).setReplying true).clearAllFlags rfl rfl rfl
      (.inl rfl) rfl rfl)

end

/-- Settles O45: a flag's code and object name it back, and the order's effect by what `flagNamed`
answers. -/
theorem clearFlagsTaken : Obligations.ClearFlagsTaken := by
  unfold Obligations.ClearFlagsTaken
  have back := flagNamed_code_object
  refine ⟨⟨fun p => ⟨back (.pump .failToStart p), back (.pump .failToStop p),
        back (.pump .outstationTrip p), back (.pump .uncommandedRun p),
        back (.pump .uncommandedStop p), back (.pump .queueTimeout p)⟩,
      fun z => ⟨back (.zone .stale z), back (.zone .sensorFail z),
        back (.zone .thresholdCollapse z)⟩,
      fun q => ⟨back (.port .loss q), back (.port .testErrors q)⟩,
      back (.part .queueFull), back (.part .modeFallback), back (.part .planSwapped),
      back (.part .planKept), back (.part .rejectedTelegrams)⟩,
    fun kind object s => ⟨?noKind, ?noObject, exists_flagNamed object, ?named, ?all⟩⟩
  case noKind =>
    intro h
    have outside : kind.toNat = 0 ∨ 17 ≤ kind.toNat := h.imp (congrArg BitVec.toNat) And.left
    have notAll : kind ≠ 255 := by bv_omega
    exact exec_clearFlags_of_refused s notAll (flagNamed_of_no_kind object outside)
  case noObject =>
    intro h
    have notAll : kind ≠ 255 := by bv_omega
    exact exec_clearFlags_of_refused s notAll (flagNamed_of_no_object object h)
  case named => exact fun notAll f h => exec_clearFlags_of_named s notAll h
  case all => rintro rfl; exact exec_clearFlags_all s

end Sys2Proof.Machine
end
